-- ==== Sys2Proof/Word.lean ====
section
/-! DEFINITION. The two machine words: an 8-bit byte and a 16-bit address word (00_scope.md R7). -/

namespace Sys2Proof

/-- An 8-bit register, memory byte or operand byte (R7). -/
abbrev Byte := BitVec 8

/-- A 16-bit address, program counter or operand (R7). -/
abbrev Word := BitVec 16

end Sys2Proof
end

