-- ==== Sys2Proof/Syntax.lean ====
section
/-! DEFINITION. Instructions as data: the addressing modes, the mnemonics, and one constructor of `Instr` per row of
spec/opcode_table.json (30_encoding.md R81, R91). -/

namespace Sys2Proof

/-- The addressing modes (30_encoding.md R81). -/
inductive Mode where
  | implied
  | accumulator
  | immediate
  | zeroPage
  | zeroPageX
  | zeroPageY
  | indexedIndirectDPX
  | indirectIndexedDPY
  | relative
  | absolute
  | absoluteX
  | absoluteY
  | indirectAbsolute
  deriving DecidableEq, Repr

/-- The destination kinds (40_engine.md R108). -/
inductive Kind where
  | register
  | memory
  | controlFlow
  deriving DecidableEq, Repr

/-- The 56 mnemonics (30_encoding.md R91). -/
inductive Mnemonic where
  | adc | sbc | cmp | cpx | cpy | asl | lsr | rol
  | ror | bcc | bcs | beq | bne | bmi | bpl | bvc
  | bvs | jmp | jsr | rts | brk | rti | pha | php
  | pla | plp | lda | ldx | ldy | sta | stx | sty
  | tax | tay | txa | tya | tsx | txs | and | ora
  | eor | bit | inc | dec | inx | iny | dex | dey
  | clc | sec | cli | sei | cld | sed | clv | nop
  deriving DecidableEq, Repr

/-- DecodeError, which is also the halt kind of a Halted engine (30_encoding.md R85, R86; 10_state.md R37). -/
inductive DecodeError where
  /-- The opcode has no dispatch entry (R85). -/
  | unknownOpcode
  /-- The buffer is shorter than the instruction (R86). -/
  | truncatedBuffer
  deriving DecidableEq, Repr

/-- InstructionDescription, what `decode` returns to a host (00_scope.md R8, 30_encoding.md R84). -/
structure InstructionDescription where
  opcode : Byte
  size : Nat
  operand : Word
  deriving DecidableEq, Repr

/-- The 151 instructions, one constructor per row of spec/opcode_table.json; an 8-bit operand is a `Byte`, a 16-bit
one a `Word` (30_encoding.md R80, R90). -/
inductive Instr where
  /-- `ADC #$nn` (R140). -/
  | adcImmediate (m : Byte)
  /-- `ADC $nn` (R140). -/
  | adcZeroPage (zp : Byte)
  /-- `ADC $nn,X` (R140). -/
  | adcZeroPageX (zp : Byte)
  /-- `ADC $hhll` (R140). -/
  | adcAbsolute (addr : Word)
  /-- `ADC $hhll,X` (R140). -/
  | adcAbsoluteX (base : Word)
  /-- `ADC $hhll,Y` (R140). -/
  | adcAbsoluteY (base : Word)
  /-- `ADC ($nn,X)` (R140). -/
  | adcIndexedIndirectDPX (zp : Byte)
  /-- `ADC ($nn),Y` (R140). -/
  | adcIndirectIndexedDPY (zp : Byte)
  /-- `SBC #$nn` (R141). -/
  | sbcImmediate (m : Byte)
  /-- `SBC $nn` (R141). -/
  | sbcZeroPage (zp : Byte)
  /-- `SBC $nn,X` (R141). -/
  | sbcZeroPageX (zp : Byte)
  /-- `SBC $hhll` (R141). -/
  | sbcAbsolute (addr : Word)
  /-- `SBC $hhll,X` (R141). -/
  | sbcAbsoluteX (base : Word)
  /-- `SBC $hhll,Y` (R141). -/
  | sbcAbsoluteY (base : Word)
  /-- `SBC ($nn,X)` (R141). -/
  | sbcIndexedIndirectDPX (zp : Byte)
  /-- `SBC ($nn),Y` (R141). -/
  | sbcIndirectIndexedDPY (zp : Byte)
  /-- `CMP #$nn` (R142). -/
  | cmpImmediate (m : Byte)
  /-- `CMP $nn` (R142). -/
  | cmpZeroPage (zp : Byte)
  /-- `CMP $nn,X` (R142). -/
  | cmpZeroPageX (zp : Byte)
  /-- `CMP $hhll` (R142). -/
  | cmpAbsolute (addr : Word)
  /-- `CMP $hhll,X` (R142). -/
  | cmpAbsoluteX (base : Word)
  /-- `CMP $hhll,Y` (R142). -/
  | cmpAbsoluteY (base : Word)
  /-- `CMP ($nn,X)` (R142). -/
  | cmpIndexedIndirectDPX (zp : Byte)
  /-- `CMP ($nn),Y` (R142). -/
  | cmpIndirectIndexedDPY (zp : Byte)
  /-- `CPX #$nn` (R143). -/
  | cpxImmediate (m : Byte)
  /-- `CPX $nn` (R143). -/
  | cpxZeroPage (zp : Byte)
  /-- `CPX $hhll` (R143). -/
  | cpxAbsolute (addr : Word)
  /-- `CPY #$nn` (R144). -/
  | cpyImmediate (m : Byte)
  /-- `CPY $nn` (R144). -/
  | cpyZeroPage (zp : Byte)
  /-- `CPY $hhll` (R144). -/
  | cpyAbsolute (addr : Word)
  /-- `ASL A` (R160). -/
  | aslAccumulator
  /-- `ASL $nn` (R160). -/
  | aslZeroPage (zp : Byte)
  /-- `ASL $nn,X` (R160). -/
  | aslZeroPageX (zp : Byte)
  /-- `ASL $hhll` (R160). -/
  | aslAbsolute (addr : Word)
  /-- `ASL $hhll,X` (R160). -/
  | aslAbsoluteX (base : Word)
  /-- `LSR A` (R161). -/
  | lsrAccumulator
  /-- `LSR $nn` (R161). -/
  | lsrZeroPage (zp : Byte)
  /-- `LSR $nn,X` (R161). -/
  | lsrZeroPageX (zp : Byte)
  /-- `LSR $hhll` (R161). -/
  | lsrAbsolute (addr : Word)
  /-- `LSR $hhll,X` (R161). -/
  | lsrAbsoluteX (base : Word)
  /-- `ROL A` (R162). -/
  | rolAccumulator
  /-- `ROL $nn` (R162). -/
  | rolZeroPage (zp : Byte)
  /-- `ROL $nn,X` (R162). -/
  | rolZeroPageX (zp : Byte)
  /-- `ROL $hhll` (R162). -/
  | rolAbsolute (addr : Word)
  /-- `ROL $hhll,X` (R162). -/
  | rolAbsoluteX (base : Word)
  /-- `ROR A` (R163). -/
  | rorAccumulator
  /-- `ROR $nn` (R163). -/
  | rorZeroPage (zp : Byte)
  /-- `ROR $nn,X` (R163). -/
  | rorZeroPageX (zp : Byte)
  /-- `ROR $hhll` (R163). -/
  | rorAbsolute (addr : Word)
  /-- `ROR $hhll,X` (R163). -/
  | rorAbsoluteX (base : Word)
  /-- `BCC $nn (target label)` (R181). -/
  | bcc (d : Byte)
  /-- `BCS $nn (target label)` (R182). -/
  | bcs (d : Byte)
  /-- `BEQ $nn (target label)` (R183). -/
  | beq (d : Byte)
  /-- `BNE $nn (target label)` (R184). -/
  | bne (d : Byte)
  /-- `BMI $nn (target label)` (R185). -/
  | bmi (d : Byte)
  /-- `BPL $nn (target label)` (R186). -/
  | bpl (d : Byte)
  /-- `BVC $nn (target label)` (R187). -/
  | bvc (d : Byte)
  /-- `BVS $nn (target label)` (R188). -/
  | bvs (d : Byte)
  /-- `JMP $hhll` (R189). -/
  | jmpAbsolute (addr : Word)
  /-- `JMP ($hhll)` (R189). -/
  | jmpIndirectAbsolute (ptr : Word)
  /-- `JSR $hhll` (R190). -/
  | jsr (addr : Word)
  /-- `RTS` (R191). -/
  | rts
  /-- `BRK` (R192). -/
  | brk
  /-- `RTI` (R194). -/
  | rti
  /-- `PHA` (R210). -/
  | pha
  /-- `PHP` (R211). -/
  | php
  /-- `PLA` (R212). -/
  | pla
  /-- `PLP` (R213). -/
  | plp
  /-- `LDA #$nn` (R230). -/
  | ldaImmediate (m : Byte)
  /-- `LDA $nn` (R230). -/
  | ldaZeroPage (zp : Byte)
  /-- `LDA $nn,X` (R230). -/
  | ldaZeroPageX (zp : Byte)
  /-- `LDA $hhll` (R230). -/
  | ldaAbsolute (addr : Word)
  /-- `LDA $hhll,X` (R230). -/
  | ldaAbsoluteX (base : Word)
  /-- `LDA $hhll,Y` (R230). -/
  | ldaAbsoluteY (base : Word)
  /-- `LDA ($nn,X)` (R230). -/
  | ldaIndexedIndirectDPX (zp : Byte)
  /-- `LDA ($nn),Y` (R230). -/
  | ldaIndirectIndexedDPY (zp : Byte)
  /-- `LDX #$nn` (R231). -/
  | ldxImmediate (m : Byte)
  /-- `LDX $nn` (R231). -/
  | ldxZeroPage (zp : Byte)
  /-- `LDX $nn,Y` (R231). -/
  | ldxZeroPageY (zp : Byte)
  /-- `LDX $hhll` (R231). -/
  | ldxAbsolute (addr : Word)
  /-- `LDX $hhll,Y` (R231). -/
  | ldxAbsoluteY (base : Word)
  /-- `LDY #$nn` (R232). -/
  | ldyImmediate (m : Byte)
  /-- `LDY $nn` (R232). -/
  | ldyZeroPage (zp : Byte)
  /-- `LDY $nn,X` (R232). -/
  | ldyZeroPageX (zp : Byte)
  /-- `LDY $hhll` (R232). -/
  | ldyAbsolute (addr : Word)
  /-- `LDY $hhll,X` (R232). -/
  | ldyAbsoluteX (base : Word)
  /-- `STA $nn` (R233). -/
  | staZeroPage (zp : Byte)
  /-- `STA $nn,X` (R233). -/
  | staZeroPageX (zp : Byte)
  /-- `STA $hhll` (R233). -/
  | staAbsolute (addr : Word)
  /-- `STA $hhll,X` (R233). -/
  | staAbsoluteX (base : Word)
  /-- `STA $hhll,Y` (R233). -/
  | staAbsoluteY (base : Word)
  /-- `STA ($nn,X)` (R233). -/
  | staIndexedIndirectDPX (zp : Byte)
  /-- `STA ($nn),Y` (R233). -/
  | staIndirectIndexedDPY (zp : Byte)
  /-- `STX $nn` (R234). -/
  | stxZeroPage (zp : Byte)
  /-- `STX $nn,Y` (R234). -/
  | stxZeroPageY (zp : Byte)
  /-- `STX $hhll` (R234). -/
  | stxAbsolute (addr : Word)
  /-- `STY $nn` (R235). -/
  | styZeroPage (zp : Byte)
  /-- `STY $nn,X` (R235). -/
  | styZeroPageX (zp : Byte)
  /-- `STY $hhll` (R235). -/
  | styAbsolute (addr : Word)
  /-- `TAX` (R236). -/
  | tax
  /-- `TAY` (R237). -/
  | tay
  /-- `TXA` (R238). -/
  | txa
  /-- `TYA` (R239). -/
  | tya
  /-- `TSX` (R240). -/
  | tsx
  /-- `TXS` (R241). -/
  | txs
  /-- `AND #$nn` (R260). -/
  | andImmediate (m : Byte)
  /-- `AND $nn` (R260). -/
  | andZeroPage (zp : Byte)
  /-- `AND $nn,X` (R260). -/
  | andZeroPageX (zp : Byte)
  /-- `AND $hhll` (R260). -/
  | andAbsolute (addr : Word)
  /-- `AND $hhll,X` (R260). -/
  | andAbsoluteX (base : Word)
  /-- `AND $hhll,Y` (R260). -/
  | andAbsoluteY (base : Word)
  /-- `AND ($nn,X)` (R260). -/
  | andIndexedIndirectDPX (zp : Byte)
  /-- `AND ($nn),Y` (R260). -/
  | andIndirectIndexedDPY (zp : Byte)
  /-- `ORA #$nn` (R261). -/
  | oraImmediate (m : Byte)
  /-- `ORA $nn` (R261). -/
  | oraZeroPage (zp : Byte)
  /-- `ORA $nn,X` (R261). -/
  | oraZeroPageX (zp : Byte)
  /-- `ORA $hhll` (R261). -/
  | oraAbsolute (addr : Word)
  /-- `ORA $hhll,X` (R261). -/
  | oraAbsoluteX (base : Word)
  /-- `ORA $hhll,Y` (R261). -/
  | oraAbsoluteY (base : Word)
  /-- `ORA ($nn,X)` (R261). -/
  | oraIndexedIndirectDPX (zp : Byte)
  /-- `ORA ($nn),Y` (R261). -/
  | oraIndirectIndexedDPY (zp : Byte)
  /-- `EOR #$nn` (R262). -/
  | eorImmediate (m : Byte)
  /-- `EOR $nn` (R262). -/
  | eorZeroPage (zp : Byte)
  /-- `EOR $nn,X` (R262). -/
  | eorZeroPageX (zp : Byte)
  /-- `EOR $hhll` (R262). -/
  | eorAbsolute (addr : Word)
  /-- `EOR $hhll,X` (R262). -/
  | eorAbsoluteX (base : Word)
  /-- `EOR $hhll,Y` (R262). -/
  | eorAbsoluteY (base : Word)
  /-- `EOR ($nn,X)` (R262). -/
  | eorIndexedIndirectDPX (zp : Byte)
  /-- `EOR ($nn),Y` (R262). -/
  | eorIndirectIndexedDPY (zp : Byte)
  /-- `BIT $nn` (R263). -/
  | bitZeroPage (zp : Byte)
  /-- `BIT $hhll` (R263). -/
  | bitAbsolute (addr : Word)
  /-- `INC $nn` (R264). -/
  | incZeroPage (zp : Byte)
  /-- `INC $nn,X` (R264). -/
  | incZeroPageX (zp : Byte)
  /-- `INC $hhll` (R264). -/
  | incAbsolute (addr : Word)
  /-- `INC $hhll,X` (R264). -/
  | incAbsoluteX (base : Word)
  /-- `DEC $nn` (R265). -/
  | decZeroPage (zp : Byte)
  /-- `DEC $nn,X` (R265). -/
  | decZeroPageX (zp : Byte)
  /-- `DEC $hhll` (R265). -/
  | decAbsolute (addr : Word)
  /-- `DEC $hhll,X` (R265). -/
  | decAbsoluteX (base : Word)
  /-- `INX` (R266). -/
  | inx
  /-- `INY` (R267). -/
  | iny
  /-- `DEX` (R268). -/
  | dex
  /-- `DEY` (R269). -/
  | dey
  /-- `CLC` (R270). -/
  | clc
  /-- `SEC` (R271). -/
  | sec
  /-- `CLI` (R272). -/
  | cli
  /-- `SEI` (R273). -/
  | sei
  /-- `CLD` (R274). -/
  | cld
  /-- `SED` (R275). -/
  | sed
  /-- `CLV` (R276). -/
  | clv
  /-- `NOP` (R277). -/
  | nop
  deriving DecidableEq, Repr

end Sys2Proof
end

