-- ==== Sys2Proof/Decode.lean ====
section
/-! DEFINITION. The decoder and the encoder: byte order, instruction lengths, the dispatch table, `decode`, and after it
the encoder written from the same tables of the spec (30_encoding.md R80 to R93, 40_engine.md R109). -/

namespace Sys2Proof

/-- `lo(w) = w mod 256` (00_scope.md R11). -/
def loByte (w : Word) : Byte := w.extractLsb' 0 8

/-- `hi(w) = w div 256` (00_scope.md R11). -/
def hiByte (w : Word) : Byte := w.extractLsb' 8 8

/-- The little-endian 16-bit value of a low and a high byte, `lo | hi << 8` (20_memory.md R64). -/
def wordOf (lo hi : Byte) : Word := hi ++ lo

/-- `zext_16` (00_scope.md R11). -/
def zext (v : Byte) : Word := v.setWidth 16

/-- `sext_16` (00_scope.md R11). -/
def sext (v : Byte) : Word := v.signExtend 16

/-- The length in bytes of an instruction of a mode (30_encoding.md R81, R82). -/
def Mode.length : Mode → Nat
  | .implied | .accumulator => 1
  | .immediate | .zeroPage | .zeroPageX | .zeroPageY | .indexedIndirectDPX | .indirectIndexedDPY | .relative => 2
  | .absolute | .absoluteX | .absoluteY | .indirectAbsolute => 3

/-- One populated slot of the dispatch table (40_engine.md R109): its mnemonic, addressing mode and destination kind, and
the instruction it makes of an assembled operand. -/
structure DispatchEntry where
  mnemonic : Mnemonic
  mode : Mode
  kind : Kind
  build : Word → Instr

/-- Row 0x of the opcode map (30_encoding.md R90). -/
def opcodeRow0 : List (Option DispatchEntry) := [
  /- 00 -/ some ⟨.brk, .implied, .controlFlow, fun _ => .brk⟩,
  /- 01 -/ some ⟨.ora, .indexedIndirectDPX, .register, fun w => .oraIndexedIndirectDPX (loByte w)⟩,
  /- 02 -/ none,
  /- 03 -/ none,
  /- 04 -/ none,
  /- 05 -/ some ⟨.ora, .zeroPage, .register, fun w => .oraZeroPage (loByte w)⟩,
  /- 06 -/ some ⟨.asl, .zeroPage, .memory, fun w => .aslZeroPage (loByte w)⟩,
  /- 07 -/ none,
  /- 08 -/ some ⟨.php, .implied, .register, fun _ => .php⟩,
  /- 09 -/ some ⟨.ora, .immediate, .register, fun w => .oraImmediate (loByte w)⟩,
  /- 0A -/ some ⟨.asl, .accumulator, .register, fun _ => .aslAccumulator⟩,
  /- 0B -/ none,
  /- 0C -/ none,
  /- 0D -/ some ⟨.ora, .absolute, .register, fun w => .oraAbsolute w⟩,
  /- 0E -/ some ⟨.asl, .absolute, .memory, fun w => .aslAbsolute w⟩,
  /- 0F -/ none]

/-- Row 1x of the opcode map (30_encoding.md R90). -/
def opcodeRow1 : List (Option DispatchEntry) := [
  /- 10 -/ some ⟨.bpl, .relative, .controlFlow, fun w => .bpl (loByte w)⟩,
  /- 11 -/ some ⟨.ora, .indirectIndexedDPY, .register, fun w => .oraIndirectIndexedDPY (loByte w)⟩,
  /- 12 -/ none,
  /- 13 -/ none,
  /- 14 -/ none,
  /- 15 -/ some ⟨.ora, .zeroPageX, .register, fun w => .oraZeroPageX (loByte w)⟩,
  /- 16 -/ some ⟨.asl, .zeroPageX, .memory, fun w => .aslZeroPageX (loByte w)⟩,
  /- 17 -/ none,
  /- 18 -/ some ⟨.clc, .implied, .register, fun _ => .clc⟩,
  /- 19 -/ some ⟨.ora, .absoluteY, .register, fun w => .oraAbsoluteY w⟩,
  /- 1A -/ none,
  /- 1B -/ none,
  /- 1C -/ none,
  /- 1D -/ some ⟨.ora, .absoluteX, .register, fun w => .oraAbsoluteX w⟩,
  /- 1E -/ some ⟨.asl, .absoluteX, .memory, fun w => .aslAbsoluteX w⟩,
  /- 1F -/ none]

/-- Row 2x of the opcode map (30_encoding.md R90). -/
def opcodeRow2 : List (Option DispatchEntry) := [
  /- 20 -/ some ⟨.jsr, .absolute, .controlFlow, fun w => .jsr w⟩,
  /- 21 -/ some ⟨.and, .indexedIndirectDPX, .register, fun w => .andIndexedIndirectDPX (loByte w)⟩,
  /- 22 -/ none,
  /- 23 -/ none,
  /- 24 -/ some ⟨.bit, .zeroPage, .register, fun w => .bitZeroPage (loByte w)⟩,
  /- 25 -/ some ⟨.and, .zeroPage, .register, fun w => .andZeroPage (loByte w)⟩,
  /- 26 -/ some ⟨.rol, .zeroPage, .memory, fun w => .rolZeroPage (loByte w)⟩,
  /- 27 -/ none,
  /- 28 -/ some ⟨.plp, .implied, .register, fun _ => .plp⟩,
  /- 29 -/ some ⟨.and, .immediate, .register, fun w => .andImmediate (loByte w)⟩,
  /- 2A -/ some ⟨.rol, .accumulator, .register, fun _ => .rolAccumulator⟩,
  /- 2B -/ none,
  /- 2C -/ some ⟨.bit, .absolute, .register, fun w => .bitAbsolute w⟩,
  /- 2D -/ some ⟨.and, .absolute, .register, fun w => .andAbsolute w⟩,
  /- 2E -/ some ⟨.rol, .absolute, .memory, fun w => .rolAbsolute w⟩,
  /- 2F -/ none]

/-- Row 3x of the opcode map (30_encoding.md R90). -/
def opcodeRow3 : List (Option DispatchEntry) := [
  /- 30 -/ some ⟨.bmi, .relative, .controlFlow, fun w => .bmi (loByte w)⟩,
  /- 31 -/ some ⟨.and, .indirectIndexedDPY, .register, fun w => .andIndirectIndexedDPY (loByte w)⟩,
  /- 32 -/ none,
  /- 33 -/ none,
  /- 34 -/ none,
  /- 35 -/ some ⟨.and, .zeroPageX, .register, fun w => .andZeroPageX (loByte w)⟩,
  /- 36 -/ some ⟨.rol, .zeroPageX, .memory, fun w => .rolZeroPageX (loByte w)⟩,
  /- 37 -/ none,
  /- 38 -/ some ⟨.sec, .implied, .register, fun _ => .sec⟩,
  /- 39 -/ some ⟨.and, .absoluteY, .register, fun w => .andAbsoluteY w⟩,
  /- 3A -/ none,
  /- 3B -/ none,
  /- 3C -/ none,
  /- 3D -/ some ⟨.and, .absoluteX, .register, fun w => .andAbsoluteX w⟩,
  /- 3E -/ some ⟨.rol, .absoluteX, .memory, fun w => .rolAbsoluteX w⟩,
  /- 3F -/ none]

/-- Row 4x of the opcode map (30_encoding.md R90). -/
def opcodeRow4 : List (Option DispatchEntry) := [
  /- 40 -/ some ⟨.rti, .implied, .controlFlow, fun _ => .rti⟩,
  /- 41 -/ some ⟨.eor, .indexedIndirectDPX, .register, fun w => .eorIndexedIndirectDPX (loByte w)⟩,
  /- 42 -/ none,
  /- 43 -/ none,
  /- 44 -/ none,
  /- 45 -/ some ⟨.eor, .zeroPage, .register, fun w => .eorZeroPage (loByte w)⟩,
  /- 46 -/ some ⟨.lsr, .zeroPage, .memory, fun w => .lsrZeroPage (loByte w)⟩,
  /- 47 -/ none,
  /- 48 -/ some ⟨.pha, .implied, .register, fun _ => .pha⟩,
  /- 49 -/ some ⟨.eor, .immediate, .register, fun w => .eorImmediate (loByte w)⟩,
  /- 4A -/ some ⟨.lsr, .accumulator, .register, fun _ => .lsrAccumulator⟩,
  /- 4B -/ none,
  /- 4C -/ some ⟨.jmp, .absolute, .controlFlow, fun w => .jmpAbsolute w⟩,
  /- 4D -/ some ⟨.eor, .absolute, .register, fun w => .eorAbsolute w⟩,
  /- 4E -/ some ⟨.lsr, .absolute, .memory, fun w => .lsrAbsolute w⟩,
  /- 4F -/ none]

/-- Row 5x of the opcode map (30_encoding.md R90). -/
def opcodeRow5 : List (Option DispatchEntry) := [
  /- 50 -/ some ⟨.bvc, .relative, .controlFlow, fun w => .bvc (loByte w)⟩,
  /- 51 -/ some ⟨.eor, .indirectIndexedDPY, .register, fun w => .eorIndirectIndexedDPY (loByte w)⟩,
  /- 52 -/ none,
  /- 53 -/ none,
  /- 54 -/ none,
  /- 55 -/ some ⟨.eor, .zeroPageX, .register, fun w => .eorZeroPageX (loByte w)⟩,
  /- 56 -/ some ⟨.lsr, .zeroPageX, .memory, fun w => .lsrZeroPageX (loByte w)⟩,
  /- 57 -/ none,
  /- 58 -/ some ⟨.cli, .implied, .register, fun _ => .cli⟩,
  /- 59 -/ some ⟨.eor, .absoluteY, .register, fun w => .eorAbsoluteY w⟩,
  /- 5A -/ none,
  /- 5B -/ none,
  /- 5C -/ none,
  /- 5D -/ some ⟨.eor, .absoluteX, .register, fun w => .eorAbsoluteX w⟩,
  /- 5E -/ some ⟨.lsr, .absoluteX, .memory, fun w => .lsrAbsoluteX w⟩,
  /- 5F -/ none]

/-- Row 6x of the opcode map (30_encoding.md R90). -/
def opcodeRow6 : List (Option DispatchEntry) := [
  /- 60 -/ some ⟨.rts, .implied, .controlFlow, fun _ => .rts⟩,
  /- 61 -/ some ⟨.adc, .indexedIndirectDPX, .register, fun w => .adcIndexedIndirectDPX (loByte w)⟩,
  /- 62 -/ none,
  /- 63 -/ none,
  /- 64 -/ none,
  /- 65 -/ some ⟨.adc, .zeroPage, .register, fun w => .adcZeroPage (loByte w)⟩,
  /- 66 -/ some ⟨.ror, .zeroPage, .memory, fun w => .rorZeroPage (loByte w)⟩,
  /- 67 -/ none,
  /- 68 -/ some ⟨.pla, .implied, .register, fun _ => .pla⟩,
  /- 69 -/ some ⟨.adc, .immediate, .register, fun w => .adcImmediate (loByte w)⟩,
  /- 6A -/ some ⟨.ror, .accumulator, .register, fun _ => .rorAccumulator⟩,
  /- 6B -/ none,
  /- 6C -/ some ⟨.jmp, .indirectAbsolute, .controlFlow, fun w => .jmpIndirectAbsolute w⟩,
  /- 6D -/ some ⟨.adc, .absolute, .register, fun w => .adcAbsolute w⟩,
  /- 6E -/ some ⟨.ror, .absolute, .memory, fun w => .rorAbsolute w⟩,
  /- 6F -/ none]

/-- Row 7x of the opcode map (30_encoding.md R90). -/
def opcodeRow7 : List (Option DispatchEntry) := [
  /- 70 -/ some ⟨.bvs, .relative, .controlFlow, fun w => .bvs (loByte w)⟩,
  /- 71 -/ some ⟨.adc, .indirectIndexedDPY, .register, fun w => .adcIndirectIndexedDPY (loByte w)⟩,
  /- 72 -/ none,
  /- 73 -/ none,
  /- 74 -/ none,
  /- 75 -/ some ⟨.adc, .zeroPageX, .register, fun w => .adcZeroPageX (loByte w)⟩,
  /- 76 -/ some ⟨.ror, .zeroPageX, .memory, fun w => .rorZeroPageX (loByte w)⟩,
  /- 77 -/ none,
  /- 78 -/ some ⟨.sei, .implied, .register, fun _ => .sei⟩,
  /- 79 -/ some ⟨.adc, .absoluteY, .register, fun w => .adcAbsoluteY w⟩,
  /- 7A -/ none,
  /- 7B -/ none,
  /- 7C -/ none,
  /- 7D -/ some ⟨.adc, .absoluteX, .register, fun w => .adcAbsoluteX w⟩,
  /- 7E -/ some ⟨.ror, .absoluteX, .memory, fun w => .rorAbsoluteX w⟩,
  /- 7F -/ none]

/-- Row 8x of the opcode map (30_encoding.md R90). -/
def opcodeRow8 : List (Option DispatchEntry) := [
  /- 80 -/ none,
  /- 81 -/ some ⟨.sta, .indexedIndirectDPX, .memory, fun w => .staIndexedIndirectDPX (loByte w)⟩,
  /- 82 -/ none,
  /- 83 -/ none,
  /- 84 -/ some ⟨.sty, .zeroPage, .memory, fun w => .styZeroPage (loByte w)⟩,
  /- 85 -/ some ⟨.sta, .zeroPage, .memory, fun w => .staZeroPage (loByte w)⟩,
  /- 86 -/ some ⟨.stx, .zeroPage, .memory, fun w => .stxZeroPage (loByte w)⟩,
  /- 87 -/ none,
  /- 88 -/ some ⟨.dey, .implied, .register, fun _ => .dey⟩,
  /- 89 -/ none,
  /- 8A -/ some ⟨.txa, .implied, .register, fun _ => .txa⟩,
  /- 8B -/ none,
  /- 8C -/ some ⟨.sty, .absolute, .memory, fun w => .styAbsolute w⟩,
  /- 8D -/ some ⟨.sta, .absolute, .memory, fun w => .staAbsolute w⟩,
  /- 8E -/ some ⟨.stx, .absolute, .memory, fun w => .stxAbsolute w⟩,
  /- 8F -/ none]

/-- Row 9x of the opcode map (30_encoding.md R90). -/
def opcodeRow9 : List (Option DispatchEntry) := [
  /- 90 -/ some ⟨.bcc, .relative, .controlFlow, fun w => .bcc (loByte w)⟩,
  /- 91 -/ some ⟨.sta, .indirectIndexedDPY, .memory, fun w => .staIndirectIndexedDPY (loByte w)⟩,
  /- 92 -/ none,
  /- 93 -/ none,
  /- 94 -/ some ⟨.sty, .zeroPageX, .memory, fun w => .styZeroPageX (loByte w)⟩,
  /- 95 -/ some ⟨.sta, .zeroPageX, .memory, fun w => .staZeroPageX (loByte w)⟩,
  /- 96 -/ some ⟨.stx, .zeroPageY, .memory, fun w => .stxZeroPageY (loByte w)⟩,
  /- 97 -/ none,
  /- 98 -/ some ⟨.tya, .implied, .register, fun _ => .tya⟩,
  /- 99 -/ some ⟨.sta, .absoluteY, .memory, fun w => .staAbsoluteY w⟩,
  /- 9A -/ some ⟨.txs, .implied, .register, fun _ => .txs⟩,
  /- 9B -/ none,
  /- 9C -/ none,
  /- 9D -/ some ⟨.sta, .absoluteX, .memory, fun w => .staAbsoluteX w⟩,
  /- 9E -/ none,
  /- 9F -/ none]

/-- Row Ax of the opcode map (30_encoding.md R90). -/
def opcodeRowA : List (Option DispatchEntry) := [
  /- A0 -/ some ⟨.ldy, .immediate, .register, fun w => .ldyImmediate (loByte w)⟩,
  /- A1 -/ some ⟨.lda, .indexedIndirectDPX, .register, fun w => .ldaIndexedIndirectDPX (loByte w)⟩,
  /- A2 -/ some ⟨.ldx, .immediate, .register, fun w => .ldxImmediate (loByte w)⟩,
  /- A3 -/ none,
  /- A4 -/ some ⟨.ldy, .zeroPage, .register, fun w => .ldyZeroPage (loByte w)⟩,
  /- A5 -/ some ⟨.lda, .zeroPage, .register, fun w => .ldaZeroPage (loByte w)⟩,
  /- A6 -/ some ⟨.ldx, .zeroPage, .register, fun w => .ldxZeroPage (loByte w)⟩,
  /- A7 -/ none,
  /- A8 -/ some ⟨.tay, .implied, .register, fun _ => .tay⟩,
  /- A9 -/ some ⟨.lda, .immediate, .register, fun w => .ldaImmediate (loByte w)⟩,
  /- AA -/ some ⟨.tax, .implied, .register, fun _ => .tax⟩,
  /- AB -/ none,
  /- AC -/ some ⟨.ldy, .absolute, .register, fun w => .ldyAbsolute w⟩,
  /- AD -/ some ⟨.lda, .absolute, .register, fun w => .ldaAbsolute w⟩,
  /- AE -/ some ⟨.ldx, .absolute, .register, fun w => .ldxAbsolute w⟩,
  /- AF -/ none]

/-- Row Bx of the opcode map (30_encoding.md R90). -/
def opcodeRowB : List (Option DispatchEntry) := [
  /- B0 -/ some ⟨.bcs, .relative, .controlFlow, fun w => .bcs (loByte w)⟩,
  /- B1 -/ some ⟨.lda, .indirectIndexedDPY, .register, fun w => .ldaIndirectIndexedDPY (loByte w)⟩,
  /- B2 -/ none,
  /- B3 -/ none,
  /- B4 -/ some ⟨.ldy, .zeroPageX, .register, fun w => .ldyZeroPageX (loByte w)⟩,
  /- B5 -/ some ⟨.lda, .zeroPageX, .register, fun w => .ldaZeroPageX (loByte w)⟩,
  /- B6 -/ some ⟨.ldx, .zeroPageY, .register, fun w => .ldxZeroPageY (loByte w)⟩,
  /- B7 -/ none,
  /- B8 -/ some ⟨.clv, .implied, .register, fun _ => .clv⟩,
  /- B9 -/ some ⟨.lda, .absoluteY, .register, fun w => .ldaAbsoluteY w⟩,
  /- BA -/ some ⟨.tsx, .implied, .register, fun _ => .tsx⟩,
  /- BB -/ none,
  /- BC -/ some ⟨.ldy, .absoluteX, .register, fun w => .ldyAbsoluteX w⟩,
  /- BD -/ some ⟨.lda, .absoluteX, .register, fun w => .ldaAbsoluteX w⟩,
  /- BE -/ some ⟨.ldx, .absoluteY, .register, fun w => .ldxAbsoluteY w⟩,
  /- BF -/ none]

/-- Row Cx of the opcode map (30_encoding.md R90). -/
def opcodeRowC : List (Option DispatchEntry) := [
  /- C0 -/ some ⟨.cpy, .immediate, .register, fun w => .cpyImmediate (loByte w)⟩,
  /- C1 -/ some ⟨.cmp, .indexedIndirectDPX, .register, fun w => .cmpIndexedIndirectDPX (loByte w)⟩,
  /- C2 -/ none,
  /- C3 -/ none,
  /- C4 -/ some ⟨.cpy, .zeroPage, .register, fun w => .cpyZeroPage (loByte w)⟩,
  /- C5 -/ some ⟨.cmp, .zeroPage, .register, fun w => .cmpZeroPage (loByte w)⟩,
  /- C6 -/ some ⟨.dec, .zeroPage, .memory, fun w => .decZeroPage (loByte w)⟩,
  /- C7 -/ none,
  /- C8 -/ some ⟨.iny, .implied, .register, fun _ => .iny⟩,
  /- C9 -/ some ⟨.cmp, .immediate, .register, fun w => .cmpImmediate (loByte w)⟩,
  /- CA -/ some ⟨.dex, .implied, .register, fun _ => .dex⟩,
  /- CB -/ none,
  /- CC -/ some ⟨.cpy, .absolute, .register, fun w => .cpyAbsolute w⟩,
  /- CD -/ some ⟨.cmp, .absolute, .register, fun w => .cmpAbsolute w⟩,
  /- CE -/ some ⟨.dec, .absolute, .memory, fun w => .decAbsolute w⟩,
  /- CF -/ none]

/-- Row Dx of the opcode map (30_encoding.md R90). -/
def opcodeRowD : List (Option DispatchEntry) := [
  /- D0 -/ some ⟨.bne, .relative, .controlFlow, fun w => .bne (loByte w)⟩,
  /- D1 -/ some ⟨.cmp, .indirectIndexedDPY, .register, fun w => .cmpIndirectIndexedDPY (loByte w)⟩,
  /- D2 -/ none,
  /- D3 -/ none,
  /- D4 -/ none,
  /- D5 -/ some ⟨.cmp, .zeroPageX, .register, fun w => .cmpZeroPageX (loByte w)⟩,
  /- D6 -/ some ⟨.dec, .zeroPageX, .memory, fun w => .decZeroPageX (loByte w)⟩,
  /- D7 -/ none,
  /- D8 -/ some ⟨.cld, .implied, .register, fun _ => .cld⟩,
  /- D9 -/ some ⟨.cmp, .absoluteY, .register, fun w => .cmpAbsoluteY w⟩,
  /- DA -/ none,
  /- DB -/ none,
  /- DC -/ none,
  /- DD -/ some ⟨.cmp, .absoluteX, .register, fun w => .cmpAbsoluteX w⟩,
  /- DE -/ some ⟨.dec, .absoluteX, .memory, fun w => .decAbsoluteX w⟩,
  /- DF -/ none]

/-- Row Ex of the opcode map (30_encoding.md R90). -/
def opcodeRowE : List (Option DispatchEntry) := [
  /- E0 -/ some ⟨.cpx, .immediate, .register, fun w => .cpxImmediate (loByte w)⟩,
  /- E1 -/ some ⟨.sbc, .indexedIndirectDPX, .register, fun w => .sbcIndexedIndirectDPX (loByte w)⟩,
  /- E2 -/ none,
  /- E3 -/ none,
  /- E4 -/ some ⟨.cpx, .zeroPage, .register, fun w => .cpxZeroPage (loByte w)⟩,
  /- E5 -/ some ⟨.sbc, .zeroPage, .register, fun w => .sbcZeroPage (loByte w)⟩,
  /- E6 -/ some ⟨.inc, .zeroPage, .memory, fun w => .incZeroPage (loByte w)⟩,
  /- E7 -/ none,
  /- E8 -/ some ⟨.inx, .implied, .register, fun _ => .inx⟩,
  /- E9 -/ some ⟨.sbc, .immediate, .register, fun w => .sbcImmediate (loByte w)⟩,
  /- EA -/ some ⟨.nop, .implied, .register, fun _ => .nop⟩,
  /- EB -/ none,
  /- EC -/ some ⟨.cpx, .absolute, .register, fun w => .cpxAbsolute w⟩,
  /- ED -/ some ⟨.sbc, .absolute, .register, fun w => .sbcAbsolute w⟩,
  /- EE -/ some ⟨.inc, .absolute, .memory, fun w => .incAbsolute w⟩,
  /- EF -/ none]

/-- Row Fx of the opcode map (30_encoding.md R90). -/
def opcodeRowF : List (Option DispatchEntry) := [
  /- F0 -/ some ⟨.beq, .relative, .controlFlow, fun w => .beq (loByte w)⟩,
  /- F1 -/ some ⟨.sbc, .indirectIndexedDPY, .register, fun w => .sbcIndirectIndexedDPY (loByte w)⟩,
  /- F2 -/ none,
  /- F3 -/ none,
  /- F4 -/ none,
  /- F5 -/ some ⟨.sbc, .zeroPageX, .register, fun w => .sbcZeroPageX (loByte w)⟩,
  /- F6 -/ some ⟨.inc, .zeroPageX, .memory, fun w => .incZeroPageX (loByte w)⟩,
  /- F7 -/ none,
  /- F8 -/ some ⟨.sed, .implied, .register, fun _ => .sed⟩,
  /- F9 -/ some ⟨.sbc, .absoluteY, .register, fun w => .sbcAbsoluteY w⟩,
  /- FA -/ none,
  /- FB -/ none,
  /- FC -/ none,
  /- FD -/ some ⟨.sbc, .absoluteX, .register, fun w => .sbcAbsoluteX w⟩,
  /- FE -/ some ⟨.inc, .absoluteX, .memory, fun w => .incAbsoluteX w⟩,
  /- FF -/ none]

/-- The row of the opcode map for a high nibble (30_encoding.md R90). -/
def opcodeRow : Nat → List (Option DispatchEntry)
  | 0 => opcodeRow0
  | 1 => opcodeRow1
  | 2 => opcodeRow2
  | 3 => opcodeRow3
  | 4 => opcodeRow4
  | 5 => opcodeRow5
  | 6 => opcodeRow6
  | 7 => opcodeRow7
  | 8 => opcodeRow8
  | 9 => opcodeRow9
  | 10 => opcodeRowA
  | 11 => opcodeRowB
  | 12 => opcodeRowC
  | 13 => opcodeRowD
  | 14 => opcodeRowE
  | 15 => opcodeRowF
  | _ => []

/-- DISPATCH[op]: the slot at the high nibble's row and the low nibble's column; `none` for one of the 105 unpopulated
opcodes (40_engine.md R109, 30_encoding.md R88 to R90). -/
def dispatch (op : Byte) : Option DispatchEntry :=
  match (opcodeRow (op.toNat / 16))[op.toNat % 16]? with
  | some slot => slot
  | none => none

/-- `instruction_width`; 1 for an unpopulated opcode (30_encoding.md R87, D28). -/
def instructionWidth (op : Byte) : Nat :=
  match dispatch op with
  | some e => e.mode.length
  | none => 1

/-- The operand of an instruction of length n from the bytes after its opcode (30_encoding.md R83). -/
def operandOf : Nat → List Byte → Word
  | 2, b1 :: _ => zext b1
  | 3, b1 :: b2 :: _ => wordOf b1 b2
  | _, _ => 0#16

/-- The spec's `decode` (30_encoding.md R84): UnknownOpcode is tested before TruncatedBuffer, extra bytes are ignored. -/
def describe : List Byte → Except DecodeError InstructionDescription
  | [] => .error .truncatedBuffer
  | op :: rest =>
    match dispatch op with
    | none => .error .unknownOpcode
    | some e =>
      if rest.length + 1 < e.mode.length then .error .truncatedBuffer
      else .ok ⟨op, e.mode.length, operandOf e.mode.length rest⟩

/-- `decode` followed by the dispatch of its description to an instruction (40_engine.md R100, R109). -/
def decode (bytes : List Byte) : Except DecodeError Instr :=
  match describe bytes with
  | .error k => .error k
  | .ok d =>
    match dispatch d.opcode with
    | some e => .ok (e.build d.operand)
    | none => .error .unknownOpcode

/-- The opcode byte of an instruction (30_encoding.md R90). -/
def Instr.opcode : Instr → Byte
  | .adcImmediate _ => 0x69#8
  | .adcZeroPage _ => 0x65#8
  | .adcZeroPageX _ => 0x75#8
  | .adcAbsolute _ => 0x6D#8
  | .adcAbsoluteX _ => 0x7D#8
  | .adcAbsoluteY _ => 0x79#8
  | .adcIndexedIndirectDPX _ => 0x61#8
  | .adcIndirectIndexedDPY _ => 0x71#8
  | .sbcImmediate _ => 0xE9#8
  | .sbcZeroPage _ => 0xE5#8
  | .sbcZeroPageX _ => 0xF5#8
  | .sbcAbsolute _ => 0xED#8
  | .sbcAbsoluteX _ => 0xFD#8
  | .sbcAbsoluteY _ => 0xF9#8
  | .sbcIndexedIndirectDPX _ => 0xE1#8
  | .sbcIndirectIndexedDPY _ => 0xF1#8
  | .cmpImmediate _ => 0xC9#8
  | .cmpZeroPage _ => 0xC5#8
  | .cmpZeroPageX _ => 0xD5#8
  | .cmpAbsolute _ => 0xCD#8
  | .cmpAbsoluteX _ => 0xDD#8
  | .cmpAbsoluteY _ => 0xD9#8
  | .cmpIndexedIndirectDPX _ => 0xC1#8
  | .cmpIndirectIndexedDPY _ => 0xD1#8
  | .cpxImmediate _ => 0xE0#8
  | .cpxZeroPage _ => 0xE4#8
  | .cpxAbsolute _ => 0xEC#8
  | .cpyImmediate _ => 0xC0#8
  | .cpyZeroPage _ => 0xC4#8
  | .cpyAbsolute _ => 0xCC#8
  | .aslAccumulator => 0x0A#8
  | .aslZeroPage _ => 0x06#8
  | .aslZeroPageX _ => 0x16#8
  | .aslAbsolute _ => 0x0E#8
  | .aslAbsoluteX _ => 0x1E#8
  | .lsrAccumulator => 0x4A#8
  | .lsrZeroPage _ => 0x46#8
  | .lsrZeroPageX _ => 0x56#8
  | .lsrAbsolute _ => 0x4E#8
  | .lsrAbsoluteX _ => 0x5E#8
  | .rolAccumulator => 0x2A#8
  | .rolZeroPage _ => 0x26#8
  | .rolZeroPageX _ => 0x36#8
  | .rolAbsolute _ => 0x2E#8
  | .rolAbsoluteX _ => 0x3E#8
  | .rorAccumulator => 0x6A#8
  | .rorZeroPage _ => 0x66#8
  | .rorZeroPageX _ => 0x76#8
  | .rorAbsolute _ => 0x6E#8
  | .rorAbsoluteX _ => 0x7E#8
  | .bcc _ => 0x90#8
  | .bcs _ => 0xB0#8
  | .beq _ => 0xF0#8
  | .bne _ => 0xD0#8
  | .bmi _ => 0x30#8
  | .bpl _ => 0x10#8
  | .bvc _ => 0x50#8
  | .bvs _ => 0x70#8
  | .jmpAbsolute _ => 0x4C#8
  | .jmpIndirectAbsolute _ => 0x6C#8
  | .jsr _ => 0x20#8
  | .rts => 0x60#8
  | .brk => 0x00#8
  | .rti => 0x40#8
  | .pha => 0x48#8
  | .php => 0x08#8
  | .pla => 0x68#8
  | .plp => 0x28#8
  | .ldaImmediate _ => 0xA9#8
  | .ldaZeroPage _ => 0xA5#8
  | .ldaZeroPageX _ => 0xB5#8
  | .ldaAbsolute _ => 0xAD#8
  | .ldaAbsoluteX _ => 0xBD#8
  | .ldaAbsoluteY _ => 0xB9#8
  | .ldaIndexedIndirectDPX _ => 0xA1#8
  | .ldaIndirectIndexedDPY _ => 0xB1#8
  | .ldxImmediate _ => 0xA2#8
  | .ldxZeroPage _ => 0xA6#8
  | .ldxZeroPageY _ => 0xB6#8
  | .ldxAbsolute _ => 0xAE#8
  | .ldxAbsoluteY _ => 0xBE#8
  | .ldyImmediate _ => 0xA0#8
  | .ldyZeroPage _ => 0xA4#8
  | .ldyZeroPageX _ => 0xB4#8
  | .ldyAbsolute _ => 0xAC#8
  | .ldyAbsoluteX _ => 0xBC#8
  | .staZeroPage _ => 0x85#8
  | .staZeroPageX _ => 0x95#8
  | .staAbsolute _ => 0x8D#8
  | .staAbsoluteX _ => 0x9D#8
  | .staAbsoluteY _ => 0x99#8
  | .staIndexedIndirectDPX _ => 0x81#8
  | .staIndirectIndexedDPY _ => 0x91#8
  | .stxZeroPage _ => 0x86#8
  | .stxZeroPageY _ => 0x96#8
  | .stxAbsolute _ => 0x8E#8
  | .styZeroPage _ => 0x84#8
  | .styZeroPageX _ => 0x94#8
  | .styAbsolute _ => 0x8C#8
  | .tax => 0xAA#8
  | .tay => 0xA8#8
  | .txa => 0x8A#8
  | .tya => 0x98#8
  | .tsx => 0xBA#8
  | .txs => 0x9A#8
  | .andImmediate _ => 0x29#8
  | .andZeroPage _ => 0x25#8
  | .andZeroPageX _ => 0x35#8
  | .andAbsolute _ => 0x2D#8
  | .andAbsoluteX _ => 0x3D#8
  | .andAbsoluteY _ => 0x39#8
  | .andIndexedIndirectDPX _ => 0x21#8
  | .andIndirectIndexedDPY _ => 0x31#8
  | .oraImmediate _ => 0x09#8
  | .oraZeroPage _ => 0x05#8
  | .oraZeroPageX _ => 0x15#8
  | .oraAbsolute _ => 0x0D#8
  | .oraAbsoluteX _ => 0x1D#8
  | .oraAbsoluteY _ => 0x19#8
  | .oraIndexedIndirectDPX _ => 0x01#8
  | .oraIndirectIndexedDPY _ => 0x11#8
  | .eorImmediate _ => 0x49#8
  | .eorZeroPage _ => 0x45#8
  | .eorZeroPageX _ => 0x55#8
  | .eorAbsolute _ => 0x4D#8
  | .eorAbsoluteX _ => 0x5D#8
  | .eorAbsoluteY _ => 0x59#8
  | .eorIndexedIndirectDPX _ => 0x41#8
  | .eorIndirectIndexedDPY _ => 0x51#8
  | .bitZeroPage _ => 0x24#8
  | .bitAbsolute _ => 0x2C#8
  | .incZeroPage _ => 0xE6#8
  | .incZeroPageX _ => 0xF6#8
  | .incAbsolute _ => 0xEE#8
  | .incAbsoluteX _ => 0xFE#8
  | .decZeroPage _ => 0xC6#8
  | .decZeroPageX _ => 0xD6#8
  | .decAbsolute _ => 0xCE#8
  | .decAbsoluteX _ => 0xDE#8
  | .inx => 0xE8#8
  | .iny => 0xC8#8
  | .dex => 0xCA#8
  | .dey => 0x88#8
  | .clc => 0x18#8
  | .sec => 0x38#8
  | .cli => 0x58#8
  | .sei => 0x78#8
  | .cld => 0xD8#8
  | .sed => 0xF8#8
  | .clv => 0xB8#8
  | .nop => 0xEA#8

/-- The mnemonic of an instruction (30_encoding.md R91). -/
def Instr.mnemonic : Instr → Mnemonic
  | .adcImmediate _ | .adcZeroPage _ | .adcZeroPageX _ | .adcAbsolute _ | .adcAbsoluteX _ | .adcAbsoluteY _
  | .adcIndexedIndirectDPX _ | .adcIndirectIndexedDPY _ => .adc
  | .sbcImmediate _ | .sbcZeroPage _ | .sbcZeroPageX _ | .sbcAbsolute _ | .sbcAbsoluteX _ | .sbcAbsoluteY _
  | .sbcIndexedIndirectDPX _ | .sbcIndirectIndexedDPY _ => .sbc
  | .cmpImmediate _ | .cmpZeroPage _ | .cmpZeroPageX _ | .cmpAbsolute _ | .cmpAbsoluteX _ | .cmpAbsoluteY _
  | .cmpIndexedIndirectDPX _ | .cmpIndirectIndexedDPY _ => .cmp
  | .cpxImmediate _ | .cpxZeroPage _ | .cpxAbsolute _ => .cpx
  | .cpyImmediate _ | .cpyZeroPage _ | .cpyAbsolute _ => .cpy
  | .aslAccumulator | .aslZeroPage _ | .aslZeroPageX _ | .aslAbsolute _ | .aslAbsoluteX _ => .asl
  | .lsrAccumulator | .lsrZeroPage _ | .lsrZeroPageX _ | .lsrAbsolute _ | .lsrAbsoluteX _ => .lsr
  | .rolAccumulator | .rolZeroPage _ | .rolZeroPageX _ | .rolAbsolute _ | .rolAbsoluteX _ => .rol
  | .rorAccumulator | .rorZeroPage _ | .rorZeroPageX _ | .rorAbsolute _ | .rorAbsoluteX _ => .ror
  | .bcc _ => .bcc
  | .bcs _ => .bcs
  | .beq _ => .beq
  | .bne _ => .bne
  | .bmi _ => .bmi
  | .bpl _ => .bpl
  | .bvc _ => .bvc
  | .bvs _ => .bvs
  | .jmpAbsolute _ | .jmpIndirectAbsolute _ => .jmp
  | .jsr _ => .jsr
  | .rts => .rts
  | .brk => .brk
  | .rti => .rti
  | .pha => .pha
  | .php => .php
  | .pla => .pla
  | .plp => .plp
  | .ldaImmediate _ | .ldaZeroPage _ | .ldaZeroPageX _ | .ldaAbsolute _ | .ldaAbsoluteX _ | .ldaAbsoluteY _
  | .ldaIndexedIndirectDPX _ | .ldaIndirectIndexedDPY _ => .lda
  | .ldxImmediate _ | .ldxZeroPage _ | .ldxZeroPageY _ | .ldxAbsolute _ | .ldxAbsoluteY _ => .ldx
  | .ldyImmediate _ | .ldyZeroPage _ | .ldyZeroPageX _ | .ldyAbsolute _ | .ldyAbsoluteX _ => .ldy
  | .staZeroPage _ | .staZeroPageX _ | .staAbsolute _ | .staAbsoluteX _ | .staAbsoluteY _
  | .staIndexedIndirectDPX _ | .staIndirectIndexedDPY _ => .sta
  | .stxZeroPage _ | .stxZeroPageY _ | .stxAbsolute _ => .stx
  | .styZeroPage _ | .styZeroPageX _ | .styAbsolute _ => .sty
  | .tax => .tax
  | .tay => .tay
  | .txa => .txa
  | .tya => .tya
  | .tsx => .tsx
  | .txs => .txs
  | .andImmediate _ | .andZeroPage _ | .andZeroPageX _ | .andAbsolute _ | .andAbsoluteX _ | .andAbsoluteY _
  | .andIndexedIndirectDPX _ | .andIndirectIndexedDPY _ => .and
  | .oraImmediate _ | .oraZeroPage _ | .oraZeroPageX _ | .oraAbsolute _ | .oraAbsoluteX _ | .oraAbsoluteY _
  | .oraIndexedIndirectDPX _ | .oraIndirectIndexedDPY _ => .ora
  | .eorImmediate _ | .eorZeroPage _ | .eorZeroPageX _ | .eorAbsolute _ | .eorAbsoluteX _ | .eorAbsoluteY _
  | .eorIndexedIndirectDPX _ | .eorIndirectIndexedDPY _ => .eor
  | .bitZeroPage _ | .bitAbsolute _ => .bit
  | .incZeroPage _ | .incZeroPageX _ | .incAbsolute _ | .incAbsoluteX _ => .inc
  | .decZeroPage _ | .decZeroPageX _ | .decAbsolute _ | .decAbsoluteX _ => .dec
  | .inx => .inx
  | .iny => .iny
  | .dex => .dex
  | .dey => .dey
  | .clc => .clc
  | .sec => .sec
  | .cli => .cli
  | .sei => .sei
  | .cld => .cld
  | .sed => .sed
  | .clv => .clv
  | .nop => .nop

/-- The addressing mode of an instruction (30_encoding.md R90). -/
def Instr.mode : Instr → Mode
  | .rts | .brk | .rti | .pha | .php | .pla | .plp | .tax | .tay | .txa | .tya | .tsx | .txs | .inx | .iny
  | .dex | .dey | .clc | .sec | .cli | .sei | .cld | .sed | .clv | .nop => .implied
  | .aslAccumulator | .lsrAccumulator | .rolAccumulator | .rorAccumulator => .accumulator
  | .adcImmediate _ | .sbcImmediate _ | .cmpImmediate _ | .cpxImmediate _ | .cpyImmediate _ | .ldaImmediate _
  | .ldxImmediate _ | .ldyImmediate _ | .andImmediate _ | .oraImmediate _ | .eorImmediate _ => .immediate
  | .adcZeroPage _ | .sbcZeroPage _ | .cmpZeroPage _ | .cpxZeroPage _ | .cpyZeroPage _ | .aslZeroPage _
  | .lsrZeroPage _ | .rolZeroPage _ | .rorZeroPage _ | .ldaZeroPage _ | .ldxZeroPage _ | .ldyZeroPage _
  | .staZeroPage _ | .stxZeroPage _ | .styZeroPage _ | .andZeroPage _ | .oraZeroPage _ | .eorZeroPage _
  | .bitZeroPage _ | .incZeroPage _ | .decZeroPage _ => .zeroPage
  | .adcZeroPageX _ | .sbcZeroPageX _ | .cmpZeroPageX _ | .aslZeroPageX _ | .lsrZeroPageX _ | .rolZeroPageX _
  | .rorZeroPageX _ | .ldaZeroPageX _ | .ldyZeroPageX _ | .staZeroPageX _ | .styZeroPageX _ | .andZeroPageX _
  | .oraZeroPageX _ | .eorZeroPageX _ | .incZeroPageX _ | .decZeroPageX _ => .zeroPageX
  | .ldxZeroPageY _ | .stxZeroPageY _ => .zeroPageY
  | .adcIndexedIndirectDPX _ | .sbcIndexedIndirectDPX _ | .cmpIndexedIndirectDPX _ | .ldaIndexedIndirectDPX _
  | .staIndexedIndirectDPX _ | .andIndexedIndirectDPX _ | .oraIndexedIndirectDPX _ | .eorIndexedIndirectDPX _ => .indexedIndirectDPX
  | .adcIndirectIndexedDPY _ | .sbcIndirectIndexedDPY _ | .cmpIndirectIndexedDPY _ | .ldaIndirectIndexedDPY _
  | .staIndirectIndexedDPY _ | .andIndirectIndexedDPY _ | .oraIndirectIndexedDPY _ | .eorIndirectIndexedDPY _ => .indirectIndexedDPY
  | .bcc _ | .bcs _ | .beq _ | .bne _ | .bmi _ | .bpl _ | .bvc _ | .bvs _ => .relative
  | .adcAbsolute _ | .sbcAbsolute _ | .cmpAbsolute _ | .cpxAbsolute _ | .cpyAbsolute _ | .aslAbsolute _
  | .lsrAbsolute _ | .rolAbsolute _ | .rorAbsolute _ | .jmpAbsolute _ | .jsr _ | .ldaAbsolute _
  | .ldxAbsolute _ | .ldyAbsolute _ | .staAbsolute _ | .stxAbsolute _ | .styAbsolute _ | .andAbsolute _
  | .oraAbsolute _ | .eorAbsolute _ | .bitAbsolute _ | .incAbsolute _ | .decAbsolute _ => .absolute
  | .adcAbsoluteX _ | .sbcAbsoluteX _ | .cmpAbsoluteX _ | .aslAbsoluteX _ | .lsrAbsoluteX _ | .rolAbsoluteX _
  | .rorAbsoluteX _ | .ldaAbsoluteX _ | .ldyAbsoluteX _ | .staAbsoluteX _ | .andAbsoluteX _ | .oraAbsoluteX _
  | .eorAbsoluteX _ | .incAbsoluteX _ | .decAbsoluteX _ => .absoluteX
  | .adcAbsoluteY _ | .sbcAbsoluteY _ | .cmpAbsoluteY _ | .ldaAbsoluteY _ | .ldxAbsoluteY _ | .staAbsoluteY _
  | .andAbsoluteY _ | .oraAbsoluteY _ | .eorAbsoluteY _ => .absoluteY
  | .jmpIndirectAbsolute _ => .indirectAbsolute

/-- The operand field of an instruction, 8-bit operands zero-extended, 0 where it has none (30_encoding.md R83). -/
def Instr.operand : Instr → Word
  | .aslAccumulator | .lsrAccumulator | .rolAccumulator | .rorAccumulator | .rts | .brk | .rti | .pha | .php
  | .pla | .plp | .tax | .tay | .txa | .tya | .tsx | .txs | .inx | .iny | .dex | .dey | .clc | .sec | .cli
  | .sei | .cld | .sed | .clv | .nop => 0#16
  | .adcImmediate b | .adcZeroPage b | .adcZeroPageX b | .adcIndexedIndirectDPX b | .adcIndirectIndexedDPY b
  | .sbcImmediate b | .sbcZeroPage b | .sbcZeroPageX b | .sbcIndexedIndirectDPX b | .sbcIndirectIndexedDPY b
  | .cmpImmediate b | .cmpZeroPage b | .cmpZeroPageX b | .cmpIndexedIndirectDPX b | .cmpIndirectIndexedDPY b
  | .cpxImmediate b | .cpxZeroPage b | .cpyImmediate b | .cpyZeroPage b | .aslZeroPage b | .aslZeroPageX b
  | .lsrZeroPage b | .lsrZeroPageX b | .rolZeroPage b | .rolZeroPageX b | .rorZeroPage b | .rorZeroPageX b
  | .bcc b | .bcs b | .beq b | .bne b | .bmi b | .bpl b | .bvc b | .bvs b | .ldaImmediate b | .ldaZeroPage b
  | .ldaZeroPageX b | .ldaIndexedIndirectDPX b | .ldaIndirectIndexedDPY b | .ldxImmediate b | .ldxZeroPage b
  | .ldxZeroPageY b | .ldyImmediate b | .ldyZeroPage b | .ldyZeroPageX b | .staZeroPage b | .staZeroPageX b
  | .staIndexedIndirectDPX b | .staIndirectIndexedDPY b | .stxZeroPage b | .stxZeroPageY b | .styZeroPage b
  | .styZeroPageX b | .andImmediate b | .andZeroPage b | .andZeroPageX b | .andIndexedIndirectDPX b
  | .andIndirectIndexedDPY b | .oraImmediate b | .oraZeroPage b | .oraZeroPageX b | .oraIndexedIndirectDPX b
  | .oraIndirectIndexedDPY b | .eorImmediate b | .eorZeroPage b | .eorZeroPageX b | .eorIndexedIndirectDPX b
  | .eorIndirectIndexedDPY b | .bitZeroPage b | .incZeroPage b | .incZeroPageX b | .decZeroPage b
  | .decZeroPageX b => zext b
  | .adcAbsolute w | .adcAbsoluteX w | .adcAbsoluteY w | .sbcAbsolute w | .sbcAbsoluteX w | .sbcAbsoluteY w
  | .cmpAbsolute w | .cmpAbsoluteX w | .cmpAbsoluteY w | .cpxAbsolute w | .cpyAbsolute w | .aslAbsolute w
  | .aslAbsoluteX w | .lsrAbsolute w | .lsrAbsoluteX w | .rolAbsolute w | .rolAbsoluteX w | .rorAbsolute w
  | .rorAbsoluteX w | .jmpAbsolute w | .jmpIndirectAbsolute w | .jsr w | .ldaAbsolute w | .ldaAbsoluteX w
  | .ldaAbsoluteY w | .ldxAbsolute w | .ldxAbsoluteY w | .ldyAbsolute w | .ldyAbsoluteX w | .staAbsolute w
  | .staAbsoluteX w | .staAbsoluteY w | .stxAbsolute w | .styAbsolute w | .andAbsolute w | .andAbsoluteX w
  | .andAbsoluteY w | .oraAbsolute w | .oraAbsoluteX w | .oraAbsoluteY w | .eorAbsolute w | .eorAbsoluteX w
  | .eorAbsoluteY w | .bitAbsolute w | .incAbsolute w | .incAbsoluteX w | .decAbsolute w | .decAbsoluteX w => w

/-- The destination kind of an instruction (40_engine.md R108). -/
def Instr.kind : Instr → Kind
  | .adcImmediate _ | .adcZeroPage _ | .adcZeroPageX _ | .adcAbsolute _ | .adcAbsoluteX _ | .adcAbsoluteY _
  | .adcIndexedIndirectDPX _ | .adcIndirectIndexedDPY _ | .sbcImmediate _ | .sbcZeroPage _ | .sbcZeroPageX _
  | .sbcAbsolute _ | .sbcAbsoluteX _ | .sbcAbsoluteY _ | .sbcIndexedIndirectDPX _ | .sbcIndirectIndexedDPY _
  | .cmpImmediate _ | .cmpZeroPage _ | .cmpZeroPageX _ | .cmpAbsolute _ | .cmpAbsoluteX _ | .cmpAbsoluteY _
  | .cmpIndexedIndirectDPX _ | .cmpIndirectIndexedDPY _ | .cpxImmediate _ | .cpxZeroPage _ | .cpxAbsolute _
  | .cpyImmediate _ | .cpyZeroPage _ | .cpyAbsolute _ | .aslAccumulator | .lsrAccumulator | .rolAccumulator
  | .rorAccumulator | .pha | .php | .pla | .plp | .ldaImmediate _ | .ldaZeroPage _ | .ldaZeroPageX _
  | .ldaAbsolute _ | .ldaAbsoluteX _ | .ldaAbsoluteY _ | .ldaIndexedIndirectDPX _ | .ldaIndirectIndexedDPY _
  | .ldxImmediate _ | .ldxZeroPage _ | .ldxZeroPageY _ | .ldxAbsolute _ | .ldxAbsoluteY _ | .ldyImmediate _
  | .ldyZeroPage _ | .ldyZeroPageX _ | .ldyAbsolute _ | .ldyAbsoluteX _ | .tax | .tay | .txa | .tya | .tsx
  | .txs | .andImmediate _ | .andZeroPage _ | .andZeroPageX _ | .andAbsolute _ | .andAbsoluteX _
  | .andAbsoluteY _ | .andIndexedIndirectDPX _ | .andIndirectIndexedDPY _ | .oraImmediate _ | .oraZeroPage _
  | .oraZeroPageX _ | .oraAbsolute _ | .oraAbsoluteX _ | .oraAbsoluteY _ | .oraIndexedIndirectDPX _
  | .oraIndirectIndexedDPY _ | .eorImmediate _ | .eorZeroPage _ | .eorZeroPageX _ | .eorAbsolute _
  | .eorAbsoluteX _ | .eorAbsoluteY _ | .eorIndexedIndirectDPX _ | .eorIndirectIndexedDPY _ | .bitZeroPage _
  | .bitAbsolute _ | .inx | .iny | .dex | .dey | .clc | .sec | .cli | .sei | .cld | .sed | .clv | .nop => .register
  | .aslZeroPage _ | .aslZeroPageX _ | .aslAbsolute _ | .aslAbsoluteX _ | .lsrZeroPage _ | .lsrZeroPageX _
  | .lsrAbsolute _ | .lsrAbsoluteX _ | .rolZeroPage _ | .rolZeroPageX _ | .rolAbsolute _ | .rolAbsoluteX _
  | .rorZeroPage _ | .rorZeroPageX _ | .rorAbsolute _ | .rorAbsoluteX _ | .staZeroPage _ | .staZeroPageX _
  | .staAbsolute _ | .staAbsoluteX _ | .staAbsoluteY _ | .staIndexedIndirectDPX _ | .staIndirectIndexedDPY _
  | .stxZeroPage _ | .stxZeroPageY _ | .stxAbsolute _ | .styZeroPage _ | .styZeroPageX _ | .styAbsolute _
  | .incZeroPage _ | .incZeroPageX _ | .incAbsolute _ | .incAbsoluteX _ | .decZeroPage _ | .decZeroPageX _
  | .decAbsolute _ | .decAbsoluteX _ => .memory
  | .bcc _ | .bcs _ | .beq _ | .bne _ | .bmi _ | .bpl _ | .bvc _ | .bvs _ | .jmpAbsolute _
  | .jmpIndirectAbsolute _ | .jsr _ | .rts | .brk | .rti => .controlFlow

/-- The length of an instruction in bytes (30_encoding.md R82). -/
def Instr.length (i : Instr) : Nat := i.mode.length

/-- The operand bytes of an instruction of length n, low byte first (30_encoding.md R80). -/
def operandBytes : Nat → Word → List Byte
  | 2, w => [loByte w]
  | 3, w => [loByte w, hiByte w]
  | _, _ => []

/-- The bytes of an instruction, in ascending addresses (30_encoding.md R80). -/
def encode (i : Instr) : List Byte := i.opcode :: operandBytes i.length i.operand

/-- The description the spec's `decode` gives of an instruction's bytes (30_encoding.md R84). -/
def Instr.describe (i : Instr) : InstructionDescription := ⟨i.opcode, i.length, i.operand⟩

/-- The instruction the decoder reads from the bits of w, numbered as spec/opcode_table.json numbers them: bit 0 is the
least significant bit of the first byte; bits from nbits on are 0. -/
def decodeTableWord (nbits w : Nat) : Option Instr :=
  let v := w % 2 ^ nbits
  match decode [BitVec.ofNat 8 v, BitVec.ofNat 8 (v / 256), BitVec.ofNat 8 (v / 65536)] with
  | .ok i => some i
  | .error _ => none

end Sys2Proof
end

