-- ==== Sys2Proof/Config.lean ====
section
/-! DEFINITION. What is fixed for one machine (the named parameters of 00_scope.md R9) and the free values
(20_memory.md R57, 60_exceptions.md R306). -/

namespace Sys2Proof.Config

/-- MemoryMode, the cartridge mapper variant (10_state.md R38). -/
inductive MemoryMode where
  | nrom128
  | nrom256
  deriving DecidableEq, Repr

/-- BRK_PUSH_ORDER (92_eei_decisions.md D6): whether BRK sets B and I before it builds the byte it pushes
(`document`) or pushes the old I (`nmos`). -/
inductive BrkPushOrder where
  | document
  | nmos
  deriving DecidableEq, Repr

/-- IO_MODEL (92_eei_decisions.md D13): whether a read of an I/O window returns the stored byte (`storage`) or an
unconstrained one (`draw`). -/
inductive IoModel where
  | storage
  | draw
  deriving DecidableEq, Repr

/-- The named parameters of R9 that no instruction and no host operation changes, with the defaults of R9.
MEMORY_MODE is the field `mode` of State, INITIAL_IMAGE the content of Storage before power-on. -/
structure Params where
  /-- P_POWERON (D7). -/
  pPowerOn : Byte := 0x34#8
  /-- RESET_LOADS_PC (D9). -/
  resetLoadsPc : Bool := true
  /-- BRK_RETURN_OFFSET (D5). -/
  brkReturnOffset : Word := 2#16
  /-- BRK_PUSH_ORDER (D6). -/
  brkPushOrder : BrkPushOrder := .document
  /-- IO_MODEL (D13). -/
  ioModel : IoModel := .storage
  /-- PRG_WRITABLE (D14). -/
  prgWritable : Bool := true
  /-- INTERRUPTS_CONNECTED (D35). -/
  interruptsConnected : Bool := false
  deriving DecidableEq, Repr

/-- Every parameter at the default R9 gives it. -/
def Params.default : Params := {}

/-- FREE VALUE (R57, D13): the byte the n-th draw of an I/O window returns. DESIGN CHOICE, safe: log entry 4. -/
opaque ioDraw : Nat → Byte

/-- FREE VALUE (R306, D35): whether the `nmi` input is active at the n-th draw. DESIGN CHOICE: log entry 5. -/
opaque nmiInput : Nat → Bool

/-- FREE VALUE (R306, D35): whether the `irq` input is active at the n-th draw. DESIGN CHOICE: log entry 5. -/
opaque irqInput : Nat → Bool

end Sys2Proof.Config
end

