-- ==== Sys2Proof/Machine/State.lean ====
section
/-! DEFINITION. The machine's state as plain data (10_state.md R20 to R43), the reasons a step can stop, and the state
after power-on (70_reset_and_hazards.md R331). -/

namespace Sys2Proof.Machine

open Sys2Proof.Config

/-- The status flags, each one stored bit of the register file (10_state.md R20, R26 to R34). -/
structure Status where
  /-- negative (R34). -/
  n : Bool
  /-- overflow (R33). -/
  v : Bool
  /-- the unused bit (R32). -/
  u : Bool
  /-- brk (R31). -/
  b : Bool
  /-- decimal (R27). -/
  d : Bool
  /-- irq_disable (R30). -/
  i : Bool
  /-- zero (R29). -/
  z : Bool
  /-- carry (R26). -/
  c : Bool
  deriving DecidableEq, Repr

/-- The engine state E, with the halt kind of a Halted engine (10_state.md R37). -/
inductive EngineState where
  | unpowered
  | running
  | halted (kind : DecodeError)
  deriving DecidableEq, Repr

/-- Storage's contents by offset (20_memory.md R60): offsets strictly rising, bytes equal to 0 not listed. -/
abbrev Memory := List Host.Cell

@[ext]
structure State where
  /-- A (R21). -/
  a : Byte
  /-- X (R22). -/
  x : Byte
  /-- Y (R23). -/
  y : Byte
  /-- S (R24). -/
  sp : Byte
  /-- PC (R25). -/
  pc : Word
  /-- The status flags (R26 to R34). -/
  p : Status
  /-- E (R37). -/
  engine : EngineState
  /-- MemoryMode (R38). -/
  mode : MemoryMode
  /-- nmi_pending (R39). -/
  nmiPending : Bool
  /-- Whether the nmi input was active when last sampled (60_exceptions.md R307). -/
  nmiLine : Bool
  /-- Whether the irq input was active when last sampled (R39, 60_exceptions.md R308). -/
  irqLine : Bool
  /-- Whether Storage's own power_on has happened (20_memory.md R61). -/
  storageReady : Bool
  /-- Storage's bytes (R41, 20_memory.md R60). -/
  mem : Memory
  /-- The named parameters (00_scope.md R9). -/
  params : Params
  /-- The MODEL's own field, not the spec's: how many free values have been drawn (log entry 4). -/
  drawIndex : Nat
  deriving DecidableEq, Repr

/-- Why a step, or an observation, stops. -/
inductive Fault where
  /-- Raised by a step or a reset in Unpowered (40_engine.md R120, 60_exceptions.md R304). Safe: the spec's own error,
  the state is unchanged. -/
  | notPoweredOn
  /-- Raised by a step whose decode fails, and by every step of a Halted engine (40_engine.md R119, R120,
  60_exceptions.md R301); `after` is the state the engine is left in. Safe: the spec calls a Halted engine a fault. -/
  | halted (kind : DecodeError) (after : State)
  /-- Raised by an observation of the register file in Unpowered, where there is none (10_state.md R42). Safe. -/
  | registerFileAbsent
  deriving DecidableEq, Repr

/-- What has no meaning in the model. -/
inductive Refusal where
  /-- Raised by exec for an instruction without a meaning; no arm of this model raises it. Safe. -/
  | notModelled (mnemonic : String)
  /-- Raised by the loader for a PRG image over 32KB (92_eei_decisions.md D33). Safe. -/
  | imageTooLarge
  /-- Raised by Storage.load for bytes past offset 0xFFFF, of which the spec says nothing (20_memory.md R62). Safe: log
  entry 9. -/
  | loadOutOfRange
  deriving DecidableEq, Repr

/-- The status flags of the byte 0x34, the default P_POWERON (70_reset_and_hazards.md R331, D7). -/
def Status.powerOn : Status :=
  { n := false, v := false, u := true, b := true, d := false, i := true, z := false, c := false }

/-- The state `power_on` leaves over the empty image with every parameter at its default (70_reset_and_hazards.md R331,
R337): the reset vector reads 0x0000, so PC is 0x0000. MemoryMode is an argument of `power_on`; NROM256 here is a
DESIGN CHOICE (log entry 1). -/
def State.reset : State :=
  { a := 0x00#8, x := 0x00#8, y := 0x00#8, sp := 0xFD#8, pc := 0x0000#16, p := Status.powerOn,
    engine := .running, mode := .nrom256, nmiPending := false, nmiLine := false, irqLine := false,
    storageReady := true, mem := [], params := Params.default, drawIndex := 0 }

/-- The machine before its first `power_on` (10_state.md R37): no register file exists, so the register fields hold
filler that no operation reads (log entry 8), and Storage has not been powered on (20_memory.md R61). MemoryMode is set
only at power-on (R38); NROM256 before it, by which a host's `Mtu::read` and `Mtu::write` translate, is a DESIGN CHOICE
(log entry 20). -/
def State.unpowered : State :=
  { State.reset with engine := .unpowered, storageReady := false }

end Sys2Proof.Machine
end

