-- ==== Sys2Proof/Machine/Ops.lean ====
section
/-! DEFINITION. The named operations over registers and memory: field updates, the status byte, Storage, the MTU, the
stack, taking a trap and returning from it (10_state.md, 20_memory.md, 43_control_flow.md R192 and R194, 60_exceptions.md
R310). -/

namespace Sys2Proof.Machine

open Sys2Proof.Config

/-! ### Registers -/

def State.setA (s : State) (v : Byte) : State := { s with a := v }
def State.setX (s : State) (v : Byte) : State := { s with x := v }
def State.setY (s : State) (v : Byte) : State := { s with y := v }
def State.setSp (s : State) (v : Byte) : State := { s with sp := v }
def State.setPc (s : State) (v : Word) : State := { s with pc := v }
def State.setP (s : State) (v : Status) : State := { s with p := v }
def State.setEngine (s : State) (v : EngineState) : State := { s with engine := v }
def State.setMode (s : State) (v : MemoryMode) : State := { s with mode := v }
def State.setNmiPending (s : State) (v : Bool) : State := { s with nmiPending := v }
def State.setLines (s : State) (nmi irq : Bool) : State := { s with nmiLine := nmi, irqLine := irq }
def State.setStorageReady (s : State) (v : Bool) : State := { s with storageReady := v }
def State.setMem (s : State) (v : Memory) : State := { s with mem := v }
def State.setDrawIndex (s : State) (v : Nat) : State := { s with drawIndex := v }

/-- Move PC past n bytes, modulo 65536 (40_engine.md R118). -/
def State.advance (s : State) (n : Nat) : State := s.setPc (s.pc + BitVec.ofNat 16 n)

/-! ### The status byte (10_state.md R28) -/

/-- A flag as the byte 0 or 1. -/
def flagByte (f : Bool) : Byte := if f then 1#8 else 0#8

/-- P, the status byte built from the flags (R28). -/
def Status.toByte (p : Status) : Byte :=
  flagByte p.n <<< 7 ||| flagByte p.v <<< 6 ||| flagByte p.u <<< 5 ||| flagByte p.b <<< 4 |||
    flagByte p.d <<< 3 ||| flagByte p.i <<< 2 ||| flagByte p.z <<< 1 ||| flagByte p.c

/-- The flags of a status byte (R28). -/
def Status.ofByte (v : Byte) : Status :=
  { n := v.getLsbD 7, v := v.getLsbD 6, u := v.getLsbD 5, b := v.getLsbD 4,
    d := v.getLsbD 3, i := v.getLsbD 2, z := v.getLsbD 1, c := v.getLsbD 0 }

/-- What PLP and RTI make of a pulled byte: `(P & 0x30) | (p & 0xCF)` (44_stack.md R213, 43_control_flow.md R194). -/
def Status.restore (p : Status) (pulled : Byte) : Status :=
  Status.ofByte ((p.toByte &&& 0x30#8) ||| (pulled &&& 0xCF#8))

/-! ### Storage (20_memory.md R60 to R62) -/

/-- The byte listed at offset k, 0 where none is (R61, R332). -/
def Memory.get : Memory → Nat → Byte
  | [], _ => 0#8
  | (k', v) :: rest, k => if k' = k then v else Memory.get rest k

/-- The list without any entry for offset k. -/
def Memory.drop (m : Memory) (k : Nat) : Memory := m.filter (fun c => c.1 != k)

/-- The list with (k, v) put before the first greater offset. -/
def Memory.insert : Memory → Nat → Byte → Memory
  | [], k, v => [(k, v)]
  | (k', v') :: rest, k, v => if k < k' then (k, v) :: (k', v') :: rest else (k', v') :: Memory.insert rest k v

/-- Set the byte at offset k, keeping the canonical form. -/
def Memory.set (m : Memory) (k : Nat) (v : Byte) : Memory :=
  if v = 0#8 then Memory.drop m k else Memory.insert (Memory.drop m k) k v

/-- Every offset of the list is above k. -/
def Memory.above (k : Nat) (m : Memory) : Bool := m.all (fun c => decide (k < c.1))

/-- The canonical form: offsets strictly rising and below 65536, no listed byte equal to 0. -/
def Memory.wf : Memory → Bool
  | [] => true
  | (k, v) :: rest => decide (k < 65536) && (v != 0#8) && Memory.above k rest && Memory.wf rest

/-- `Storage.read(offset)`; zero before Storage's power_on (R60, R61). -/
def State.storageRead (s : State) (offset : Word) : Byte :=
  if s.storageReady then Memory.get s.mem offset.toNat else 0#8

/-- `Storage.write(offset, byte)`; nothing before Storage's power_on (R60, R61). -/
def State.storageWrite (s : State) (offset : Word) (v : Byte) : State :=
  if s.storageReady then s.setMem (Memory.set s.mem offset.toNat v) else s

/-! ### The MTU (20_memory.md R51 to R59) -/

/-- The translation of a logical address to a Storage offset, first match wins (R51). -/
def translateAddr (addr : Word) (mode : MemoryMode) : Word :=
  if addr ≤ 0x1FFF#16 then addr % 2048#16
  else if addr ≤ 0x3FFF#16 then 0x2000#16 + addr % 8#16
  else if 0x8000#16 ≤ addr ∧ mode = .nrom128 then 0x8000#16 + addr % 0x4000#16
  else addr

/-- The two I/O windows, 0x2000 to 0x3FFF and 0x4000 to 0x401F (R57). -/
def isIoWindow (addr : Word) : Bool := decide (0x2000#16 ≤ addr) && decide (addr ≤ 0x401F#16)

/-- `Storage[translate(addr, MemoryMode)]`, the stored byte a logical address names (R55). -/
def State.peek (s : State) (addr : Word) : Byte := s.storageRead (translateAddr addr s.mode)

/-- `MemRead(addr, 1)` (R55): the stored byte and no effect; under `IO_MODEL = draw` a read of an I/O window takes the
next free byte instead (R57). -/
def State.memRead (s : State) (addr : Word) : Byte × State :=
  if s.params.ioModel = .draw ∧ isIoWindow addr = true then
    (ioDraw s.drawIndex, s.setDrawIndex (s.drawIndex + 1))
  else (s.peek addr, s)

/-- `MemWrite(addr, 1, v)` (R56): a store at every address, but with `PRG_WRITABLE = false` none to 0x8000 and up. -/
def State.memWrite (s : State) (addr : Word) (v : Byte) : State :=
  if 0x8000#16 ≤ addr ∧ s.params.prgWritable = false then s
  else s.storageWrite (translateAddr addr s.mode) v

/-- `Read16(lo, hi)`, the low byte read first (00_scope.md R11). -/
def State.read16 (s : State) (lo hi : Word) : Word × State :=
  let l := s.memRead lo
  let h := l.2.memRead hi
  (wordOf l.1 h.1, h.2)

/-! ### The stack (20_memory.md R67 to R69) -/

/-- `0x0100 + S` (R67). -/
def stackAddr (sp : Byte) : Word := 0x0100#16 + zext sp

/-- `Push(v)` (R67). -/
def State.push (s : State) (v : Byte) : State :=
  (s.memWrite (stackAddr s.sp) v).setSp (s.sp - 1#8)

/-- `Pull()` (R68). -/
def State.pull (s : State) : Byte × State :=
  (s.setSp (s.sp + 1#8)).memRead (stackAddr (s.sp + 1#8))

/-- Push a 16-bit value, high byte first (20_memory.md R64, D4). -/
def State.pushWord (s : State) (w : Word) : State := (s.push (hiByte w)).push (loByte w)

/-- Pull a 16-bit value, low byte first (43_control_flow.md R191, D4). -/
def State.pullWord (s : State) : Word × State :=
  let l := s.pull
  let h := l.2.pull
  (wordOf l.1 h.1, h.2)

/-! ### Traps (43_control_flow.md R192, R194; 60_exceptions.md R310, R311) -/

/-- Entry to a trap or an interrupt: push the return address and the status byte given, set I, take PC from the vector
(R192, R310). -/
def State.takeTrap (s : State) (ret : Word) (status : Byte) (vector : Word) : State :=
  let s1 := (s.pushWord ret).push status
  let t := s1.read16 vector (vector + 1#16)
  (t.2.setP { t.2.p with i := true }).setPc t.1

/-- Return from a trap: pull the status byte, which keeps B and U, then PC low and high, no +1 (R194, R313). -/
def State.returnFromTrap (s : State) : State :=
  let q := s.pull
  let r := (q.2.setP (s.p.restore q.1)).pullWord
  r.2.setPc r.1

end Sys2Proof.Machine
end

