-- ==== Sys2Proof/Machine/Flags.lean ====
section
/-! DEFINITION. Every flag computation and every 8-bit result of the instruction set, on bytes and flags alone
(00_scope.md R12, 41_arithmetic_compare.md, 42_shift_rotate.md, 46_logic_incdec_flags.md R263). -/

namespace Sys2Proof.Machine

/-- `SetNZ(r)` (00_scope.md R12). -/
def Status.setNZ (p : Status) (r : Byte) : Status := { p with n := r.getLsbD 7, z := decide (r = 0#8) }

/-- `A + M + C` before reduction (41_arithmetic_compare.md R140). -/
def addSum (a m : Byte) (c : Bool) : Nat := a.toNat + m.toNat + (flagByte c).toNat

/-- The sum modulo 256 (R140). -/
def addResult (a m : Byte) (c : Bool) : Byte := BitVec.ofNat 8 (addSum a m c)

/-- The carry out of the sum (R140). -/
def addCarry (a m : Byte) (c : Bool) : Bool := decide (255 < addSum a m c)

/-- The overflow of the sum: bit 7 of `~(A ^ M) & (A ^ r)` (R140). -/
def addOverflow (a m r : Byte) : Bool := (~~~(a ^^^ m) &&& (a ^^^ r)).getLsbD 7

/-- The flags after ADC of m to a (R140). -/
def Status.afterAdd (p : Status) (a m : Byte) : Status :=
  let r := addResult a m p.c
  { p.setNZ r with v := addOverflow a m r, c := addCarry a m p.c }

/-- The flags after a compare of register r with m (R142). -/
def Status.afterCompare (p : Status) (r m : Byte) : Status :=
  { p with c := decide (m ≤ r), z := decide (r = m), n := (r - m).getLsbD 7 }

/-- The flags after BIT (46_logic_incdec_flags.md R263). -/
def Status.afterBit (p : Status) (a m : Byte) : Status :=
  { p with z := decide (a &&& m = 0#8), n := m.getLsbD 7, v := m.getLsbD 6 }

/-- The flags after a shift with result r and bit c shifted out (42_shift_rotate.md R160 to R163). -/
def Status.afterShift (p : Status) (r : Byte) (c : Bool) : Status := { p.setNZ r with c := c }

/-- ASL's result (R160). -/
def aslResult (v : Byte) : Byte := v <<< 1

/-- LSR's result (R161). -/
def lsrResult (v : Byte) : Byte := v >>> 1

/-- ROL's result: the incoming carry fills bit 0 (R162). -/
def rolResult (v : Byte) (c : Bool) : Byte := v <<< 1 ||| flagByte c

/-- ROR's result: the incoming carry fills bit 7 (R163). -/
def rorResult (v : Byte) (c : Bool) : Byte := v >>> 1 ||| flagByte c <<< 7

end Sys2Proof.Machine
end

