-- ==== Sys2Proof/Machine/Operands.lean ====
section
/-! DEFINITION. The addressing-mode resolver and the engine's paths around an operation: read, operate, write back,
advance (40_engine.md R100 to R118). -/

namespace Sys2Proof.Machine

/-- The address of an IndirectAbsolute pointer's high byte, with the page-boundary bug (40_engine.md R104). -/
def pointerHighAddr (ptr : Word) : Word := (ptr &&& 0xFF00#16) ||| ((ptr + 1#16) &&& 0x00FF#16)

/-- A 16-bit pointer from two adjacent zero-page bytes, the second within page 0 (R106, R107, D21). -/
def State.zeroPagePointer (s : State) (base : Byte) : Word × State := s.read16 (zext base) (zext (base + 1#8))

/-- `resolve(mode, operand, regs)`, the effective address, with the state its pointer reads leave (R102 to R107). The
modes the engine never resolves answer the operand. -/
def State.resolve (s : State) (mode : Mode) (operand : Word) : Word × State :=
  match mode with
  | .zeroPage | .absolute => (operand, s)
  | .zeroPageX => (zext (loByte operand + s.x), s)
  | .zeroPageY => (zext (loByte operand + s.y), s)
  | .absoluteX => (operand + zext s.x, s)
  | .absoluteY => (operand + zext s.y, s)
  | .indirectAbsolute => s.read16 operand (pointerHighAddr operand)
  | .indexedIndirectDPX => s.zeroPagePointer (loByte operand + s.x)
  | .indirectIndexedDPY =>
    let q := s.zeroPagePointer (loByte operand)
    (q.1 + zext s.y, q.2)
  | .implied | .accumulator | .immediate | .relative => (operand, s)

/-- The effective address alone (R102). -/
def State.effectiveAddress (s : State) (mode : Mode) (operand : Word) : Word := (s.resolve mode operand).1

/-- M, the operand value of an operation, with the state its reads leave: A, the literal, or the byte at the effective
address (R112, R113, R114). -/
def State.operandRead (s : State) (mode : Mode) (operand : Word) : Byte × State :=
  match mode with
  | .accumulator => (s.a, s)
  | .immediate => (loByte operand, s)
  | _ =>
    let ea := s.resolve mode operand
    ea.2.memRead ea.1

/-- M alone (R112, R113, R114). -/
def State.operandValue (s : State) (mode : Mode) (operand : Word) : Byte := (s.operandRead mode operand).1

/-- Register kind with an immediate or memory operand: read M, operate, advance PC (R113, R116, R118). -/
def State.registerForm (s : State) (mode : Mode) (operand : Word) (op : Byte → State → State) : State :=
  let m := s.operandRead mode operand
  (op m.1 m.2).advance mode.length

/-- Accumulator form: M is A and the result goes to A (R112, R118). -/
def State.accumulatorForm (s : State) (op : Byte → State → Byte × State) : State :=
  let r := op s.a s
  (r.2.setA r.1).advance Mode.accumulator.length

/-- Memory kind: resolve, read M, operate, write the result back to the same address once, advance PC (R114, R115). -/
def State.memoryForm (s : State) (mode : Mode) (operand : Word) (op : Byte → State → Byte × State) : State :=
  let ea := s.resolve mode operand
  let m := ea.2.memRead ea.1
  let r := op m.1 m.2
  (r.2.memWrite ea.1 r.1).advance mode.length

/-- A store: Memory kind whose operation ignores M and returns a register (R117). -/
def State.storeForm (s : State) (mode : Mode) (operand : Word) (reg : State → Byte) : State :=
  s.memoryForm mode operand (fun _ t => (reg t, t))

/-- Implied form of Register kind: operate, advance PC (R111, R118). -/
def State.impliedForm (s : State) (op : State → State) : State := (op s).advance Mode.implied.length

/-- A conditional branch: PC past the branch, plus the signed displacement when taken (43_control_flow.md R180). -/
def State.branch (s : State) (cond : Bool) (d : Byte) : State :=
  let next := s.pc + 2#16
  s.setPc (if cond then next + sext d else next)

end Sys2Proof.Machine
end

