-- ==== Sys2Proof/Machine/Arithmetic.lean ====
section
/-! DEFINITION. Arithmetic and compare: ADC, SBC, CMP, CPX, CPY (41_arithmetic_compare.md). -/

namespace Sys2Proof.Machine

/-- ADC's operation on operand value m: binary whatever D holds (R140). -/
def opAdc (m : Byte) (s : State) : State :=
  (s.setA (addResult s.a m s.p.c)).setP (s.p.afterAdd s.a m)

/-- `ADC #$nn`, opcode 0x69 (R140). -/
def execAdcImmediate (m : Byte) (s : State) : Host.Outcome State Fault Refusal :=
  .next (s.registerForm .immediate (zext m) opAdc)

/-- `ADC $nn`, opcode 0x65 (R140). -/
def execAdcZeroPage (zp : Byte) (s : State) : Host.Outcome State Fault Refusal :=
  .next (s.registerForm .zeroPage (zext zp) opAdc)

/-- `ADC $nn,X`, opcode 0x75 (R140). -/
def execAdcZeroPageX (zp : Byte) (s : State) : Host.Outcome State Fault Refusal :=
  .next (s.registerForm .zeroPageX (zext zp) opAdc)

/-- `ADC $hhll`, opcode 0x6D (R140). -/
def execAdcAbsolute (addr : Word) (s : State) : Host.Outcome State Fault Refusal :=
  .next (s.registerForm .absolute addr opAdc)

/-- `ADC $hhll,X`, opcode 0x7D (R140). -/
def execAdcAbsoluteX (base : Word) (s : State) : Host.Outcome State Fault Refusal :=
  .next (s.registerForm .absoluteX base opAdc)

/-- `ADC $hhll,Y`, opcode 0x79 (R140). -/
def execAdcAbsoluteY (base : Word) (s : State) : Host.Outcome State Fault Refusal :=
  .next (s.registerForm .absoluteY base opAdc)

/-- `ADC ($nn,X)`, opcode 0x61 (R140). -/
def execAdcIndexedIndirectDPX (zp : Byte) (s : State) : Host.Outcome State Fault Refusal :=
  .next (s.registerForm .indexedIndirectDPX (zext zp) opAdc)

/-- `ADC ($nn),Y`, opcode 0x71 (R140). -/
def execAdcIndirectIndexedDPY (zp : Byte) (s : State) : Host.Outcome State Fault Refusal :=
  .next (s.registerForm .indirectIndexedDPY (zext zp) opAdc)

/-- SBC's operation: ADC's with the operand complemented (R141). -/
def opSbc (m : Byte) (s : State) : State := opAdc (0xFF#8 - m) s

/-- `SBC #$nn`, opcode 0xE9 (R141). -/
def execSbcImmediate (m : Byte) (s : State) : Host.Outcome State Fault Refusal :=
  .next (s.registerForm .immediate (zext m) opSbc)

/-- `SBC $nn`, opcode 0xE5 (R141). -/
def execSbcZeroPage (zp : Byte) (s : State) : Host.Outcome State Fault Refusal :=
  .next (s.registerForm .zeroPage (zext zp) opSbc)

/-- `SBC $nn,X`, opcode 0xF5 (R141). -/
def execSbcZeroPageX (zp : Byte) (s : State) : Host.Outcome State Fault Refusal :=
  .next (s.registerForm .zeroPageX (zext zp) opSbc)

/-- `SBC $hhll`, opcode 0xED (R141). -/
def execSbcAbsolute (addr : Word) (s : State) : Host.Outcome State Fault Refusal :=
  .next (s.registerForm .absolute addr opSbc)

/-- `SBC $hhll,X`, opcode 0xFD (R141). -/
def execSbcAbsoluteX (base : Word) (s : State) : Host.Outcome State Fault Refusal :=
  .next (s.registerForm .absoluteX base opSbc)

/-- `SBC $hhll,Y`, opcode 0xF9 (R141). -/
def execSbcAbsoluteY (base : Word) (s : State) : Host.Outcome State Fault Refusal :=
  .next (s.registerForm .absoluteY base opSbc)

/-- `SBC ($nn,X)`, opcode 0xE1 (R141). -/
def execSbcIndexedIndirectDPX (zp : Byte) (s : State) : Host.Outcome State Fault Refusal :=
  .next (s.registerForm .indexedIndirectDPX (zext zp) opSbc)

/-- `SBC ($nn),Y`, opcode 0xF1 (R141). -/
def execSbcIndirectIndexedDPY (zp : Byte) (s : State) : Host.Outcome State Fault Refusal :=
  .next (s.registerForm .indirectIndexedDPY (zext zp) opSbc)

/-- CMP's operation (R142). -/
def opCmp (m : Byte) (s : State) : State := s.setP (s.p.afterCompare s.a m)

/-- `CMP #$nn`, opcode 0xC9 (R142). -/
def execCmpImmediate (m : Byte) (s : State) : Host.Outcome State Fault Refusal :=
  .next (s.registerForm .immediate (zext m) opCmp)

/-- `CMP $nn`, opcode 0xC5 (R142). -/
def execCmpZeroPage (zp : Byte) (s : State) : Host.Outcome State Fault Refusal :=
  .next (s.registerForm .zeroPage (zext zp) opCmp)

/-- `CMP $nn,X`, opcode 0xD5 (R142). -/
def execCmpZeroPageX (zp : Byte) (s : State) : Host.Outcome State Fault Refusal :=
  .next (s.registerForm .zeroPageX (zext zp) opCmp)

/-- `CMP $hhll`, opcode 0xCD (R142). -/
def execCmpAbsolute (addr : Word) (s : State) : Host.Outcome State Fault Refusal :=
  .next (s.registerForm .absolute addr opCmp)

/-- `CMP $hhll,X`, opcode 0xDD (R142). -/
def execCmpAbsoluteX (base : Word) (s : State) : Host.Outcome State Fault Refusal :=
  .next (s.registerForm .absoluteX base opCmp)

/-- `CMP $hhll,Y`, opcode 0xD9 (R142). -/
def execCmpAbsoluteY (base : Word) (s : State) : Host.Outcome State Fault Refusal :=
  .next (s.registerForm .absoluteY base opCmp)

/-- `CMP ($nn,X)`, opcode 0xC1 (R142). -/
def execCmpIndexedIndirectDPX (zp : Byte) (s : State) : Host.Outcome State Fault Refusal :=
  .next (s.registerForm .indexedIndirectDPX (zext zp) opCmp)

/-- `CMP ($nn),Y`, opcode 0xD1 (R142). -/
def execCmpIndirectIndexedDPY (zp : Byte) (s : State) : Host.Outcome State Fault Refusal :=
  .next (s.registerForm .indirectIndexedDPY (zext zp) opCmp)

/-- CPX's operation (R143). -/
def opCpx (m : Byte) (s : State) : State := s.setP (s.p.afterCompare s.x m)

/-- `CPX #$nn`, opcode 0xE0 (R143). -/
def execCpxImmediate (m : Byte) (s : State) : Host.Outcome State Fault Refusal :=
  .next (s.registerForm .immediate (zext m) opCpx)

/-- `CPX $nn`, opcode 0xE4 (R143). -/
def execCpxZeroPage (zp : Byte) (s : State) : Host.Outcome State Fault Refusal :=
  .next (s.registerForm .zeroPage (zext zp) opCpx)

/-- `CPX $hhll`, opcode 0xEC (R143). -/
def execCpxAbsolute (addr : Word) (s : State) : Host.Outcome State Fault Refusal :=
  .next (s.registerForm .absolute addr opCpx)

/-- CPY's operation (R144). -/
def opCpy (m : Byte) (s : State) : State := s.setP (s.p.afterCompare s.y m)

/-- `CPY #$nn`, opcode 0xC0 (R144). -/
def execCpyImmediate (m : Byte) (s : State) : Host.Outcome State Fault Refusal :=
  .next (s.registerForm .immediate (zext m) opCpy)

/-- `CPY $nn`, opcode 0xC4 (R144). -/
def execCpyZeroPage (zp : Byte) (s : State) : Host.Outcome State Fault Refusal :=
  .next (s.registerForm .zeroPage (zext zp) opCpy)

/-- `CPY $hhll`, opcode 0xCC (R144). -/
def execCpyAbsolute (addr : Word) (s : State) : Host.Outcome State Fault Refusal :=
  .next (s.registerForm .absolute addr opCpy)

end Sys2Proof.Machine
end

