-- ==== Sys2Proof/Machine/Control.lean ====
section
/-! DEFINITION. Control flow: branches, JMP, JSR, RTS, BRK, RTI (43_control_flow.md). -/

namespace Sys2Proof.Machine

/-- `BCC $nn (target label)`, opcode 0x90 (R181). -/
def execBcc (d : Byte) (s : State) : Host.Outcome State Fault Refusal :=
  .next (s.branch (!s.p.c) d)

/-- `BCS $nn (target label)`, opcode 0xB0 (R182). -/
def execBcs (d : Byte) (s : State) : Host.Outcome State Fault Refusal :=
  .next (s.branch s.p.c d)

/-- `BEQ $nn (target label)`, opcode 0xF0 (R183). -/
def execBeq (d : Byte) (s : State) : Host.Outcome State Fault Refusal :=
  .next (s.branch s.p.z d)

/-- `BNE $nn (target label)`, opcode 0xD0 (R184). -/
def execBne (d : Byte) (s : State) : Host.Outcome State Fault Refusal :=
  .next (s.branch (!s.p.z) d)

/-- `BMI $nn (target label)`, opcode 0x30 (R185). -/
def execBmi (d : Byte) (s : State) : Host.Outcome State Fault Refusal :=
  .next (s.branch s.p.n d)

/-- `BPL $nn (target label)`, opcode 0x10 (R186). -/
def execBpl (d : Byte) (s : State) : Host.Outcome State Fault Refusal :=
  .next (s.branch (!s.p.n) d)

/-- `BVC $nn (target label)`, opcode 0x50 (R187). -/
def execBvc (d : Byte) (s : State) : Host.Outcome State Fault Refusal :=
  .next (s.branch (!s.p.v) d)

/-- `BVS $nn (target label)`, opcode 0x70 (R188). -/
def execBvs (d : Byte) (s : State) : Host.Outcome State Fault Refusal :=
  .next (s.branch s.p.v d)

/-- `JMP $hhll`, opcode 0x4C (R189). -/
def execJmpAbsolute (addr : Word) (s : State) : Host.Outcome State Fault Refusal :=
  .next (s.setPc addr)

/-- `JMP ($hhll)`, opcode 0x6C (R189). -/
def execJmpIndirectAbsolute (ptr : Word) (s : State) : Host.Outcome State Fault Refusal :=
  let ea := s.resolve .indirectAbsolute ptr
  .next (ea.2.setPc ea.1)

/-- `JSR $hhll`, opcode 0x20 (R190). -/
def execJsr (addr : Word) (s : State) : Host.Outcome State Fault Refusal :=
  .next ((s.pushWord (s.pc + 2#16)).setPc addr)

/-- `RTS`, opcode 0x60 (R191). -/
def execRts (s : State) : Host.Outcome State Fault Refusal :=
  let r := s.pullWord
  .next (r.2.setPc (r.1 + 1#16))

/-- The status byte BRK pushes: P with B and I already set, or under `BRK_PUSH_ORDER = nmos` the old P with bit 4 set
(R192, D6). -/
def brkPushedStatus (s : State) : Byte :=
  match s.params.brkPushOrder with
  | .document => Status.toByte { s.p with b := true, i := true }
  | .nmos => s.p.toByte ||| 0x10#8

/-- `BRK`, opcode 0x00 (R192). -/
def execBrk (s : State) : Host.Outcome State Fault Refusal :=
  .next ((s.setP { s.p with b := true, i := true }).takeTrap (s.pc + s.params.brkReturnOffset) (brkPushedStatus s) 0xFFFE#16)

/-- `RTI`, opcode 0x40 (R194). -/
def execRti (s : State) : Host.Outcome State Fault Refusal :=
  .next s.returnFromTrap

end Sys2Proof.Machine
end

