-- ==== Sys2Proof/Machine/Logic.lean ====
section
/-! DEFINITION. Logic, increments, flag operations and NOP (46_logic_incdec_flags.md). -/

namespace Sys2Proof.Machine

/-- AND's operation (R260). -/
def opAnd (m : Byte) (s : State) : State := (s.setA (s.a &&& m)).setP (s.p.setNZ (s.a &&& m))

/-- `AND #$nn`, opcode 0x29 (R260). -/
def execAndImmediate (m : Byte) (s : State) : Host.Outcome State Fault Refusal :=
  .next (s.registerForm .immediate (zext m) opAnd)

/-- `AND $nn`, opcode 0x25 (R260). -/
def execAndZeroPage (zp : Byte) (s : State) : Host.Outcome State Fault Refusal :=
  .next (s.registerForm .zeroPage (zext zp) opAnd)

/-- `AND $nn,X`, opcode 0x35 (R260). -/
def execAndZeroPageX (zp : Byte) (s : State) : Host.Outcome State Fault Refusal :=
  .next (s.registerForm .zeroPageX (zext zp) opAnd)

/-- `AND $hhll`, opcode 0x2D (R260). -/
def execAndAbsolute (addr : Word) (s : State) : Host.Outcome State Fault Refusal :=
  .next (s.registerForm .absolute addr opAnd)

/-- `AND $hhll,X`, opcode 0x3D (R260). -/
def execAndAbsoluteX (base : Word) (s : State) : Host.Outcome State Fault Refusal :=
  .next (s.registerForm .absoluteX base opAnd)

/-- `AND $hhll,Y`, opcode 0x39 (R260). -/
def execAndAbsoluteY (base : Word) (s : State) : Host.Outcome State Fault Refusal :=
  .next (s.registerForm .absoluteY base opAnd)

/-- `AND ($nn,X)`, opcode 0x21 (R260). -/
def execAndIndexedIndirectDPX (zp : Byte) (s : State) : Host.Outcome State Fault Refusal :=
  .next (s.registerForm .indexedIndirectDPX (zext zp) opAnd)

/-- `AND ($nn),Y`, opcode 0x31 (R260). -/
def execAndIndirectIndexedDPY (zp : Byte) (s : State) : Host.Outcome State Fault Refusal :=
  .next (s.registerForm .indirectIndexedDPY (zext zp) opAnd)

/-- ORA's operation (R261). -/
def opOra (m : Byte) (s : State) : State := (s.setA (s.a ||| m)).setP (s.p.setNZ (s.a ||| m))

/-- `ORA #$nn`, opcode 0x09 (R261). -/
def execOraImmediate (m : Byte) (s : State) : Host.Outcome State Fault Refusal :=
  .next (s.registerForm .immediate (zext m) opOra)

/-- `ORA $nn`, opcode 0x05 (R261). -/
def execOraZeroPage (zp : Byte) (s : State) : Host.Outcome State Fault Refusal :=
  .next (s.registerForm .zeroPage (zext zp) opOra)

/-- `ORA $nn,X`, opcode 0x15 (R261). -/
def execOraZeroPageX (zp : Byte) (s : State) : Host.Outcome State Fault Refusal :=
  .next (s.registerForm .zeroPageX (zext zp) opOra)

/-- `ORA $hhll`, opcode 0x0D (R261). -/
def execOraAbsolute (addr : Word) (s : State) : Host.Outcome State Fault Refusal :=
  .next (s.registerForm .absolute addr opOra)

/-- `ORA $hhll,X`, opcode 0x1D (R261). -/
def execOraAbsoluteX (base : Word) (s : State) : Host.Outcome State Fault Refusal :=
  .next (s.registerForm .absoluteX base opOra)

/-- `ORA $hhll,Y`, opcode 0x19 (R261). -/
def execOraAbsoluteY (base : Word) (s : State) : Host.Outcome State Fault Refusal :=
  .next (s.registerForm .absoluteY base opOra)

/-- `ORA ($nn,X)`, opcode 0x01 (R261). -/
def execOraIndexedIndirectDPX (zp : Byte) (s : State) : Host.Outcome State Fault Refusal :=
  .next (s.registerForm .indexedIndirectDPX (zext zp) opOra)

/-- `ORA ($nn),Y`, opcode 0x11 (R261). -/
def execOraIndirectIndexedDPY (zp : Byte) (s : State) : Host.Outcome State Fault Refusal :=
  .next (s.registerForm .indirectIndexedDPY (zext zp) opOra)

/-- EOR's operation (R262). -/
def opEor (m : Byte) (s : State) : State := (s.setA (s.a ^^^ m)).setP (s.p.setNZ (s.a ^^^ m))

/-- `EOR #$nn`, opcode 0x49 (R262). -/
def execEorImmediate (m : Byte) (s : State) : Host.Outcome State Fault Refusal :=
  .next (s.registerForm .immediate (zext m) opEor)

/-- `EOR $nn`, opcode 0x45 (R262). -/
def execEorZeroPage (zp : Byte) (s : State) : Host.Outcome State Fault Refusal :=
  .next (s.registerForm .zeroPage (zext zp) opEor)

/-- `EOR $nn,X`, opcode 0x55 (R262). -/
def execEorZeroPageX (zp : Byte) (s : State) : Host.Outcome State Fault Refusal :=
  .next (s.registerForm .zeroPageX (zext zp) opEor)

/-- `EOR $hhll`, opcode 0x4D (R262). -/
def execEorAbsolute (addr : Word) (s : State) : Host.Outcome State Fault Refusal :=
  .next (s.registerForm .absolute addr opEor)

/-- `EOR $hhll,X`, opcode 0x5D (R262). -/
def execEorAbsoluteX (base : Word) (s : State) : Host.Outcome State Fault Refusal :=
  .next (s.registerForm .absoluteX base opEor)

/-- `EOR $hhll,Y`, opcode 0x59 (R262). -/
def execEorAbsoluteY (base : Word) (s : State) : Host.Outcome State Fault Refusal :=
  .next (s.registerForm .absoluteY base opEor)

/-- `EOR ($nn,X)`, opcode 0x41 (R262). -/
def execEorIndexedIndirectDPX (zp : Byte) (s : State) : Host.Outcome State Fault Refusal :=
  .next (s.registerForm .indexedIndirectDPX (zext zp) opEor)

/-- `EOR ($nn),Y`, opcode 0x51 (R262). -/
def execEorIndirectIndexedDPY (zp : Byte) (s : State) : Host.Outcome State Fault Refusal :=
  .next (s.registerForm .indirectIndexedDPY (zext zp) opEor)

/-- BIT's operation: A is not written (R263). -/
def opBit (m : Byte) (s : State) : State := s.setP (s.p.afterBit s.a m)

/-- `BIT $nn`, opcode 0x24 (R263). -/
def execBitZeroPage (zp : Byte) (s : State) : Host.Outcome State Fault Refusal :=
  .next (s.registerForm .zeroPage (zext zp) opBit)

/-- `BIT $hhll`, opcode 0x2C (R263). -/
def execBitAbsolute (addr : Word) (s : State) : Host.Outcome State Fault Refusal :=
  .next (s.registerForm .absolute addr opBit)

/-- INC's operation (R264). -/
def opInc (m : Byte) (s : State) : Byte × State := (m + 1#8, s.setP (s.p.setNZ (m + 1#8)))

/-- `INC $nn`, opcode 0xE6 (R264). -/
def execIncZeroPage (zp : Byte) (s : State) : Host.Outcome State Fault Refusal :=
  .next (s.memoryForm .zeroPage (zext zp) opInc)

/-- `INC $nn,X`, opcode 0xF6 (R264). -/
def execIncZeroPageX (zp : Byte) (s : State) : Host.Outcome State Fault Refusal :=
  .next (s.memoryForm .zeroPageX (zext zp) opInc)

/-- `INC $hhll`, opcode 0xEE (R264). -/
def execIncAbsolute (addr : Word) (s : State) : Host.Outcome State Fault Refusal :=
  .next (s.memoryForm .absolute addr opInc)

/-- `INC $hhll,X`, opcode 0xFE (R264). -/
def execIncAbsoluteX (base : Word) (s : State) : Host.Outcome State Fault Refusal :=
  .next (s.memoryForm .absoluteX base opInc)

/-- DEC's operation (R265). -/
def opDec (m : Byte) (s : State) : Byte × State := (m - 1#8, s.setP (s.p.setNZ (m - 1#8)))

/-- `DEC $nn`, opcode 0xC6 (R265). -/
def execDecZeroPage (zp : Byte) (s : State) : Host.Outcome State Fault Refusal :=
  .next (s.memoryForm .zeroPage (zext zp) opDec)

/-- `DEC $nn,X`, opcode 0xD6 (R265). -/
def execDecZeroPageX (zp : Byte) (s : State) : Host.Outcome State Fault Refusal :=
  .next (s.memoryForm .zeroPageX (zext zp) opDec)

/-- `DEC $hhll`, opcode 0xCE (R265). -/
def execDecAbsolute (addr : Word) (s : State) : Host.Outcome State Fault Refusal :=
  .next (s.memoryForm .absolute addr opDec)

/-- `DEC $hhll,X`, opcode 0xDE (R265). -/
def execDecAbsoluteX (base : Word) (s : State) : Host.Outcome State Fault Refusal :=
  .next (s.memoryForm .absoluteX base opDec)

/-- `INX`, opcode 0xE8 (R266). -/
def execInx (s : State) : Host.Outcome State Fault Refusal :=
  .next (s.impliedForm (fun t => (t.setX (t.x + 1#8)).setP (t.p.setNZ (t.x + 1#8))))

/-- `INY`, opcode 0xC8 (R267). -/
def execIny (s : State) : Host.Outcome State Fault Refusal :=
  .next (s.impliedForm (fun t => (t.setY (t.y + 1#8)).setP (t.p.setNZ (t.y + 1#8))))

/-- `DEX`, opcode 0xCA (R268). -/
def execDex (s : State) : Host.Outcome State Fault Refusal :=
  .next (s.impliedForm (fun t => (t.setX (t.x - 1#8)).setP (t.p.setNZ (t.x - 1#8))))

/-- `DEY`, opcode 0x88 (R269). -/
def execDey (s : State) : Host.Outcome State Fault Refusal :=
  .next (s.impliedForm (fun t => (t.setY (t.y - 1#8)).setP (t.p.setNZ (t.y - 1#8))))

/-- `CLC`, opcode 0x18 (R270). -/
def execClc (s : State) : Host.Outcome State Fault Refusal :=
  .next (s.impliedForm (fun t => t.setP { t.p with c := false }))

/-- `SEC`, opcode 0x38 (R271). -/
def execSec (s : State) : Host.Outcome State Fault Refusal :=
  .next (s.impliedForm (fun t => t.setP { t.p with c := true }))

/-- `CLI`, opcode 0x58 (R272). -/
def execCli (s : State) : Host.Outcome State Fault Refusal :=
  .next (s.impliedForm (fun t => t.setP { t.p with i := false }))

/-- `SEI`, opcode 0x78 (R273). -/
def execSei (s : State) : Host.Outcome State Fault Refusal :=
  .next (s.impliedForm (fun t => t.setP { t.p with i := true }))

/-- `CLD`, opcode 0xD8 (R274). -/
def execCld (s : State) : Host.Outcome State Fault Refusal :=
  .next (s.impliedForm (fun t => t.setP { t.p with d := false }))

/-- `SED`, opcode 0xF8 (R275). -/
def execSed (s : State) : Host.Outcome State Fault Refusal :=
  .next (s.impliedForm (fun t => t.setP { t.p with d := true }))

/-- `CLV`, opcode 0xB8 (R276). -/
def execClv (s : State) : Host.Outcome State Fault Refusal :=
  .next (s.impliedForm (fun t => t.setP { t.p with v := false }))

/-- `NOP`, opcode 0xEA (R277). -/
def execNop (s : State) : Host.Outcome State Fault Refusal :=
  .next (s.impliedForm id)

end Sys2Proof.Machine
end

