-- ==== Sys2Proof/Machine/Shift.lean ====
section
/-! DEFINITION. Shifts and rotates of A or memory: ASL, LSR, ROL, ROR (42_shift_rotate.md). -/

namespace Sys2Proof.Machine

/-- ASL's operation, arithmetic shift left (R160). -/
def opAsl (v : Byte) (s : State) : Byte × State :=
  (aslResult v, s.setP (s.p.afterShift (aslResult v) (v.getLsbD 7)))

/-- `ASL A`, opcode 0x0A (R160). -/
def execAslAccumulator (s : State) : Host.Outcome State Fault Refusal :=
  .next (s.accumulatorForm opAsl)

/-- `ASL $nn`, opcode 0x06 (R160). -/
def execAslZeroPage (zp : Byte) (s : State) : Host.Outcome State Fault Refusal :=
  .next (s.memoryForm .zeroPage (zext zp) opAsl)

/-- `ASL $nn,X`, opcode 0x16 (R160). -/
def execAslZeroPageX (zp : Byte) (s : State) : Host.Outcome State Fault Refusal :=
  .next (s.memoryForm .zeroPageX (zext zp) opAsl)

/-- `ASL $hhll`, opcode 0x0E (R160). -/
def execAslAbsolute (addr : Word) (s : State) : Host.Outcome State Fault Refusal :=
  .next (s.memoryForm .absolute addr opAsl)

/-- `ASL $hhll,X`, opcode 0x1E (R160). -/
def execAslAbsoluteX (base : Word) (s : State) : Host.Outcome State Fault Refusal :=
  .next (s.memoryForm .absoluteX base opAsl)

/-- LSR's operation, logical shift right (R161). -/
def opLsr (v : Byte) (s : State) : Byte × State :=
  (lsrResult v, s.setP (s.p.afterShift (lsrResult v) (v.getLsbD 0)))

/-- `LSR A`, opcode 0x4A (R161). -/
def execLsrAccumulator (s : State) : Host.Outcome State Fault Refusal :=
  .next (s.accumulatorForm opLsr)

/-- `LSR $nn`, opcode 0x46 (R161). -/
def execLsrZeroPage (zp : Byte) (s : State) : Host.Outcome State Fault Refusal :=
  .next (s.memoryForm .zeroPage (zext zp) opLsr)

/-- `LSR $nn,X`, opcode 0x56 (R161). -/
def execLsrZeroPageX (zp : Byte) (s : State) : Host.Outcome State Fault Refusal :=
  .next (s.memoryForm .zeroPageX (zext zp) opLsr)

/-- `LSR $hhll`, opcode 0x4E (R161). -/
def execLsrAbsolute (addr : Word) (s : State) : Host.Outcome State Fault Refusal :=
  .next (s.memoryForm .absolute addr opLsr)

/-- `LSR $hhll,X`, opcode 0x5E (R161). -/
def execLsrAbsoluteX (base : Word) (s : State) : Host.Outcome State Fault Refusal :=
  .next (s.memoryForm .absoluteX base opLsr)

/-- ROL's operation, rotate left through carry (R162). -/
def opRol (v : Byte) (s : State) : Byte × State :=
  (rolResult v s.p.c, s.setP (s.p.afterShift (rolResult v s.p.c) (v.getLsbD 7)))

/-- `ROL A`, opcode 0x2A (R162). -/
def execRolAccumulator (s : State) : Host.Outcome State Fault Refusal :=
  .next (s.accumulatorForm opRol)

/-- `ROL $nn`, opcode 0x26 (R162). -/
def execRolZeroPage (zp : Byte) (s : State) : Host.Outcome State Fault Refusal :=
  .next (s.memoryForm .zeroPage (zext zp) opRol)

/-- `ROL $nn,X`, opcode 0x36 (R162). -/
def execRolZeroPageX (zp : Byte) (s : State) : Host.Outcome State Fault Refusal :=
  .next (s.memoryForm .zeroPageX (zext zp) opRol)

/-- `ROL $hhll`, opcode 0x2E (R162). -/
def execRolAbsolute (addr : Word) (s : State) : Host.Outcome State Fault Refusal :=
  .next (s.memoryForm .absolute addr opRol)

/-- `ROL $hhll,X`, opcode 0x3E (R162). -/
def execRolAbsoluteX (base : Word) (s : State) : Host.Outcome State Fault Refusal :=
  .next (s.memoryForm .absoluteX base opRol)

/-- ROR's operation, rotate right through carry (R163). -/
def opRor (v : Byte) (s : State) : Byte × State :=
  (rorResult v s.p.c, s.setP (s.p.afterShift (rorResult v s.p.c) (v.getLsbD 0)))

/-- `ROR A`, opcode 0x6A (R163). -/
def execRorAccumulator (s : State) : Host.Outcome State Fault Refusal :=
  .next (s.accumulatorForm opRor)

/-- `ROR $nn`, opcode 0x66 (R163). -/
def execRorZeroPage (zp : Byte) (s : State) : Host.Outcome State Fault Refusal :=
  .next (s.memoryForm .zeroPage (zext zp) opRor)

/-- `ROR $nn,X`, opcode 0x76 (R163). -/
def execRorZeroPageX (zp : Byte) (s : State) : Host.Outcome State Fault Refusal :=
  .next (s.memoryForm .zeroPageX (zext zp) opRor)

/-- `ROR $hhll`, opcode 0x6E (R163). -/
def execRorAbsolute (addr : Word) (s : State) : Host.Outcome State Fault Refusal :=
  .next (s.memoryForm .absolute addr opRor)

/-- `ROR $hhll,X`, opcode 0x7E (R163). -/
def execRorAbsoluteX (base : Word) (s : State) : Host.Outcome State Fault Refusal :=
  .next (s.memoryForm .absoluteX base opRor)

end Sys2Proof.Machine
end

