-- ==== Sys2Proof/Machine/Stack.lean ====
section
/-! DEFINITION. Stack instructions: PHA, PHP, PLA, PLP (44_stack.md). -/

namespace Sys2Proof.Machine

/-- `PHA`, opcode 0x48 (R210). -/
def execPha (s : State) : Host.Outcome State Fault Refusal :=
  .next (s.impliedForm (fun t => t.push t.a))

/-- `PHP`, opcode 0x08 (R211). -/
def execPhp (s : State) : Host.Outcome State Fault Refusal :=
  .next (s.impliedForm (fun t => t.push (Status.toByte { t.p with b := true })))

/-- PLA's operation: pull A, then SetNZ (R212). -/
def opPla (s : State) : State :=
  let q := s.pull
  (q.2.setA q.1).setP (q.2.p.setNZ q.1)

/-- PLP's operation: pull the flags, keeping B and U (R213). -/
def opPlp (s : State) : State :=
  let q := s.pull
  q.2.setP (q.2.p.restore q.1)

/-- `PLA`, opcode 0x68 (R212). -/
def execPla (s : State) : Host.Outcome State Fault Refusal :=
  .next (s.impliedForm opPla)

/-- `PLP`, opcode 0x28 (R213). -/
def execPlp (s : State) : Host.Outcome State Fault Refusal :=
  .next (s.impliedForm opPlp)

end Sys2Proof.Machine
end

