-- ==== Sys2Proof/Machine/Transfer.lean ====
section
/-! DEFINITION. Loads, stores and register transfers (45_load_store_transfer.md). -/

namespace Sys2Proof.Machine

/-- LDA's operation (R230). -/
def opLda (m : Byte) (s : State) : State := (s.setA m).setP (s.p.setNZ m)

/-- `LDA #$nn`, opcode 0xA9 (R230). -/
def execLdaImmediate (m : Byte) (s : State) : Host.Outcome State Fault Refusal :=
  .next (s.registerForm .immediate (zext m) opLda)

/-- `LDA $nn`, opcode 0xA5 (R230). -/
def execLdaZeroPage (zp : Byte) (s : State) : Host.Outcome State Fault Refusal :=
  .next (s.registerForm .zeroPage (zext zp) opLda)

/-- `LDA $nn,X`, opcode 0xB5 (R230). -/
def execLdaZeroPageX (zp : Byte) (s : State) : Host.Outcome State Fault Refusal :=
  .next (s.registerForm .zeroPageX (zext zp) opLda)

/-- `LDA $hhll`, opcode 0xAD (R230). -/
def execLdaAbsolute (addr : Word) (s : State) : Host.Outcome State Fault Refusal :=
  .next (s.registerForm .absolute addr opLda)

/-- `LDA $hhll,X`, opcode 0xBD (R230). -/
def execLdaAbsoluteX (base : Word) (s : State) : Host.Outcome State Fault Refusal :=
  .next (s.registerForm .absoluteX base opLda)

/-- `LDA $hhll,Y`, opcode 0xB9 (R230). -/
def execLdaAbsoluteY (base : Word) (s : State) : Host.Outcome State Fault Refusal :=
  .next (s.registerForm .absoluteY base opLda)

/-- `LDA ($nn,X)`, opcode 0xA1 (R230). -/
def execLdaIndexedIndirectDPX (zp : Byte) (s : State) : Host.Outcome State Fault Refusal :=
  .next (s.registerForm .indexedIndirectDPX (zext zp) opLda)

/-- `LDA ($nn),Y`, opcode 0xB1 (R230). -/
def execLdaIndirectIndexedDPY (zp : Byte) (s : State) : Host.Outcome State Fault Refusal :=
  .next (s.registerForm .indirectIndexedDPY (zext zp) opLda)

/-- LDX's operation (R231). -/
def opLdx (m : Byte) (s : State) : State := (s.setX m).setP (s.p.setNZ m)

/-- `LDX #$nn`, opcode 0xA2 (R231). -/
def execLdxImmediate (m : Byte) (s : State) : Host.Outcome State Fault Refusal :=
  .next (s.registerForm .immediate (zext m) opLdx)

/-- `LDX $nn`, opcode 0xA6 (R231). -/
def execLdxZeroPage (zp : Byte) (s : State) : Host.Outcome State Fault Refusal :=
  .next (s.registerForm .zeroPage (zext zp) opLdx)

/-- `LDX $nn,Y`, opcode 0xB6 (R231). -/
def execLdxZeroPageY (zp : Byte) (s : State) : Host.Outcome State Fault Refusal :=
  .next (s.registerForm .zeroPageY (zext zp) opLdx)

/-- `LDX $hhll`, opcode 0xAE (R231). -/
def execLdxAbsolute (addr : Word) (s : State) : Host.Outcome State Fault Refusal :=
  .next (s.registerForm .absolute addr opLdx)

/-- `LDX $hhll,Y`, opcode 0xBE (R231). -/
def execLdxAbsoluteY (base : Word) (s : State) : Host.Outcome State Fault Refusal :=
  .next (s.registerForm .absoluteY base opLdx)

/-- LDY's operation (R232). -/
def opLdy (m : Byte) (s : State) : State := (s.setY m).setP (s.p.setNZ m)

/-- `LDY #$nn`, opcode 0xA0 (R232). -/
def execLdyImmediate (m : Byte) (s : State) : Host.Outcome State Fault Refusal :=
  .next (s.registerForm .immediate (zext m) opLdy)

/-- `LDY $nn`, opcode 0xA4 (R232). -/
def execLdyZeroPage (zp : Byte) (s : State) : Host.Outcome State Fault Refusal :=
  .next (s.registerForm .zeroPage (zext zp) opLdy)

/-- `LDY $nn,X`, opcode 0xB4 (R232). -/
def execLdyZeroPageX (zp : Byte) (s : State) : Host.Outcome State Fault Refusal :=
  .next (s.registerForm .zeroPageX (zext zp) opLdy)

/-- `LDY $hhll`, opcode 0xAC (R232). -/
def execLdyAbsolute (addr : Word) (s : State) : Host.Outcome State Fault Refusal :=
  .next (s.registerForm .absolute addr opLdy)

/-- `LDY $hhll,X`, opcode 0xBC (R232). -/
def execLdyAbsoluteX (base : Word) (s : State) : Host.Outcome State Fault Refusal :=
  .next (s.registerForm .absoluteX base opLdy)

/-- `STA $nn`, opcode 0x85 (R233). -/
def execStaZeroPage (zp : Byte) (s : State) : Host.Outcome State Fault Refusal :=
  .next (s.storeForm .zeroPage (zext zp) State.a)

/-- `STA $nn,X`, opcode 0x95 (R233). -/
def execStaZeroPageX (zp : Byte) (s : State) : Host.Outcome State Fault Refusal :=
  .next (s.storeForm .zeroPageX (zext zp) State.a)

/-- `STA $hhll`, opcode 0x8D (R233). -/
def execStaAbsolute (addr : Word) (s : State) : Host.Outcome State Fault Refusal :=
  .next (s.storeForm .absolute addr State.a)

/-- `STA $hhll,X`, opcode 0x9D (R233). -/
def execStaAbsoluteX (base : Word) (s : State) : Host.Outcome State Fault Refusal :=
  .next (s.storeForm .absoluteX base State.a)

/-- `STA $hhll,Y`, opcode 0x99 (R233). -/
def execStaAbsoluteY (base : Word) (s : State) : Host.Outcome State Fault Refusal :=
  .next (s.storeForm .absoluteY base State.a)

/-- `STA ($nn,X)`, opcode 0x81 (R233). -/
def execStaIndexedIndirectDPX (zp : Byte) (s : State) : Host.Outcome State Fault Refusal :=
  .next (s.storeForm .indexedIndirectDPX (zext zp) State.a)

/-- `STA ($nn),Y`, opcode 0x91 (R233). -/
def execStaIndirectIndexedDPY (zp : Byte) (s : State) : Host.Outcome State Fault Refusal :=
  .next (s.storeForm .indirectIndexedDPY (zext zp) State.a)

/-- `STX $nn`, opcode 0x86 (R234). -/
def execStxZeroPage (zp : Byte) (s : State) : Host.Outcome State Fault Refusal :=
  .next (s.storeForm .zeroPage (zext zp) State.x)

/-- `STX $nn,Y`, opcode 0x96 (R234). -/
def execStxZeroPageY (zp : Byte) (s : State) : Host.Outcome State Fault Refusal :=
  .next (s.storeForm .zeroPageY (zext zp) State.x)

/-- `STX $hhll`, opcode 0x8E (R234). -/
def execStxAbsolute (addr : Word) (s : State) : Host.Outcome State Fault Refusal :=
  .next (s.storeForm .absolute addr State.x)

/-- `STY $nn`, opcode 0x84 (R235). -/
def execStyZeroPage (zp : Byte) (s : State) : Host.Outcome State Fault Refusal :=
  .next (s.storeForm .zeroPage (zext zp) State.y)

/-- `STY $nn,X`, opcode 0x94 (R235). -/
def execStyZeroPageX (zp : Byte) (s : State) : Host.Outcome State Fault Refusal :=
  .next (s.storeForm .zeroPageX (zext zp) State.y)

/-- `STY $hhll`, opcode 0x8C (R235). -/
def execStyAbsolute (addr : Word) (s : State) : Host.Outcome State Fault Refusal :=
  .next (s.storeForm .absolute addr State.y)

/-- `TAX`, opcode 0xAA (R236). -/
def execTax (s : State) : Host.Outcome State Fault Refusal :=
  .next (s.impliedForm (fun t => (t.setX t.a).setP (t.p.setNZ t.a)))

/-- `TAY`, opcode 0xA8 (R237). -/
def execTay (s : State) : Host.Outcome State Fault Refusal :=
  .next (s.impliedForm (fun t => (t.setY t.a).setP (t.p.setNZ t.a)))

/-- `TXA`, opcode 0x8A (R238). -/
def execTxa (s : State) : Host.Outcome State Fault Refusal :=
  .next (s.impliedForm (fun t => (t.setA t.x).setP (t.p.setNZ t.x)))

/-- `TYA`, opcode 0x98 (R239). -/
def execTya (s : State) : Host.Outcome State Fault Refusal :=
  .next (s.impliedForm (fun t => (t.setA t.y).setP (t.p.setNZ t.y)))

/-- `TSX`, opcode 0xBA (R240). -/
def execTsx (s : State) : Host.Outcome State Fault Refusal :=
  .next (s.impliedForm (fun t => (t.setX t.sp).setP (t.p.setNZ t.sp)))

/-- `TXS`, opcode 0x9A (R241). -/
def execTxs (s : State) : Host.Outcome State Fault Refusal :=
  .next (s.impliedForm (fun t => t.setSp t.x))

end Sys2Proof.Machine
end

