-- ==== Sys2Proof/Machine/Dispatch.lean ====
section
/-! DEFINITION. The dispatch of an instruction to its meaning (40_engine.md R109, R124), one arm per constructor. -/

namespace Sys2Proof.Machine

def exec (i : Instr) (s : State) : Host.Outcome State Fault Refusal :=
  match i with
  | .adcImmediate m => Sys2Proof.Machine.execAdcImmediate m s
  | .adcZeroPage zp => Sys2Proof.Machine.execAdcZeroPage zp s
  | .adcZeroPageX zp => Sys2Proof.Machine.execAdcZeroPageX zp s
  | .adcAbsolute addr => Sys2Proof.Machine.execAdcAbsolute addr s
  | .adcAbsoluteX base => Sys2Proof.Machine.execAdcAbsoluteX base s
  | .adcAbsoluteY base => Sys2Proof.Machine.execAdcAbsoluteY base s
  | .adcIndexedIndirectDPX zp => Sys2Proof.Machine.execAdcIndexedIndirectDPX zp s
  | .adcIndirectIndexedDPY zp => Sys2Proof.Machine.execAdcIndirectIndexedDPY zp s
  | .sbcImmediate m => Sys2Proof.Machine.execSbcImmediate m s
  | .sbcZeroPage zp => Sys2Proof.Machine.execSbcZeroPage zp s
  | .sbcZeroPageX zp => Sys2Proof.Machine.execSbcZeroPageX zp s
  | .sbcAbsolute addr => Sys2Proof.Machine.execSbcAbsolute addr s
  | .sbcAbsoluteX base => Sys2Proof.Machine.execSbcAbsoluteX base s
  | .sbcAbsoluteY base => Sys2Proof.Machine.execSbcAbsoluteY base s
  | .sbcIndexedIndirectDPX zp => Sys2Proof.Machine.execSbcIndexedIndirectDPX zp s
  | .sbcIndirectIndexedDPY zp => Sys2Proof.Machine.execSbcIndirectIndexedDPY zp s
  | .cmpImmediate m => Sys2Proof.Machine.execCmpImmediate m s
  | .cmpZeroPage zp => Sys2Proof.Machine.execCmpZeroPage zp s
  | .cmpZeroPageX zp => Sys2Proof.Machine.execCmpZeroPageX zp s
  | .cmpAbsolute addr => Sys2Proof.Machine.execCmpAbsolute addr s
  | .cmpAbsoluteX base => Sys2Proof.Machine.execCmpAbsoluteX base s
  | .cmpAbsoluteY base => Sys2Proof.Machine.execCmpAbsoluteY base s
  | .cmpIndexedIndirectDPX zp => Sys2Proof.Machine.execCmpIndexedIndirectDPX zp s
  | .cmpIndirectIndexedDPY zp => Sys2Proof.Machine.execCmpIndirectIndexedDPY zp s
  | .cpxImmediate m => Sys2Proof.Machine.execCpxImmediate m s
  | .cpxZeroPage zp => Sys2Proof.Machine.execCpxZeroPage zp s
  | .cpxAbsolute addr => Sys2Proof.Machine.execCpxAbsolute addr s
  | .cpyImmediate m => Sys2Proof.Machine.execCpyImmediate m s
  | .cpyZeroPage zp => Sys2Proof.Machine.execCpyZeroPage zp s
  | .cpyAbsolute addr => Sys2Proof.Machine.execCpyAbsolute addr s
  | .aslAccumulator => Sys2Proof.Machine.execAslAccumulator s
  | .aslZeroPage zp => Sys2Proof.Machine.execAslZeroPage zp s
  | .aslZeroPageX zp => Sys2Proof.Machine.execAslZeroPageX zp s
  | .aslAbsolute addr => Sys2Proof.Machine.execAslAbsolute addr s
  | .aslAbsoluteX base => Sys2Proof.Machine.execAslAbsoluteX base s
  | .lsrAccumulator => Sys2Proof.Machine.execLsrAccumulator s
  | .lsrZeroPage zp => Sys2Proof.Machine.execLsrZeroPage zp s
  | .lsrZeroPageX zp => Sys2Proof.Machine.execLsrZeroPageX zp s
  | .lsrAbsolute addr => Sys2Proof.Machine.execLsrAbsolute addr s
  | .lsrAbsoluteX base => Sys2Proof.Machine.execLsrAbsoluteX base s
  | .rolAccumulator => Sys2Proof.Machine.execRolAccumulator s
  | .rolZeroPage zp => Sys2Proof.Machine.execRolZeroPage zp s
  | .rolZeroPageX zp => Sys2Proof.Machine.execRolZeroPageX zp s
  | .rolAbsolute addr => Sys2Proof.Machine.execRolAbsolute addr s
  | .rolAbsoluteX base => Sys2Proof.Machine.execRolAbsoluteX base s
  | .rorAccumulator => Sys2Proof.Machine.execRorAccumulator s
  | .rorZeroPage zp => Sys2Proof.Machine.execRorZeroPage zp s
  | .rorZeroPageX zp => Sys2Proof.Machine.execRorZeroPageX zp s
  | .rorAbsolute addr => Sys2Proof.Machine.execRorAbsolute addr s
  | .rorAbsoluteX base => Sys2Proof.Machine.execRorAbsoluteX base s
  | .bcc d => Sys2Proof.Machine.execBcc d s
  | .bcs d => Sys2Proof.Machine.execBcs d s
  | .beq d => Sys2Proof.Machine.execBeq d s
  | .bne d => Sys2Proof.Machine.execBne d s
  | .bmi d => Sys2Proof.Machine.execBmi d s
  | .bpl d => Sys2Proof.Machine.execBpl d s
  | .bvc d => Sys2Proof.Machine.execBvc d s
  | .bvs d => Sys2Proof.Machine.execBvs d s
  | .jmpAbsolute addr => Sys2Proof.Machine.execJmpAbsolute addr s
  | .jmpIndirectAbsolute ptr => Sys2Proof.Machine.execJmpIndirectAbsolute ptr s
  | .jsr addr => Sys2Proof.Machine.execJsr addr s
  | .rts => Sys2Proof.Machine.execRts s
  | .brk => Sys2Proof.Machine.execBrk s
  | .rti => Sys2Proof.Machine.execRti s
  | .pha => Sys2Proof.Machine.execPha s
  | .php => Sys2Proof.Machine.execPhp s
  | .pla => Sys2Proof.Machine.execPla s
  | .plp => Sys2Proof.Machine.execPlp s
  | .ldaImmediate m => Sys2Proof.Machine.execLdaImmediate m s
  | .ldaZeroPage zp => Sys2Proof.Machine.execLdaZeroPage zp s
  | .ldaZeroPageX zp => Sys2Proof.Machine.execLdaZeroPageX zp s
  | .ldaAbsolute addr => Sys2Proof.Machine.execLdaAbsolute addr s
  | .ldaAbsoluteX base => Sys2Proof.Machine.execLdaAbsoluteX base s
  | .ldaAbsoluteY base => Sys2Proof.Machine.execLdaAbsoluteY base s
  | .ldaIndexedIndirectDPX zp => Sys2Proof.Machine.execLdaIndexedIndirectDPX zp s
  | .ldaIndirectIndexedDPY zp => Sys2Proof.Machine.execLdaIndirectIndexedDPY zp s
  | .ldxImmediate m => Sys2Proof.Machine.execLdxImmediate m s
  | .ldxZeroPage zp => Sys2Proof.Machine.execLdxZeroPage zp s
  | .ldxZeroPageY zp => Sys2Proof.Machine.execLdxZeroPageY zp s
  | .ldxAbsolute addr => Sys2Proof.Machine.execLdxAbsolute addr s
  | .ldxAbsoluteY base => Sys2Proof.Machine.execLdxAbsoluteY base s
  | .ldyImmediate m => Sys2Proof.Machine.execLdyImmediate m s
  | .ldyZeroPage zp => Sys2Proof.Machine.execLdyZeroPage zp s
  | .ldyZeroPageX zp => Sys2Proof.Machine.execLdyZeroPageX zp s
  | .ldyAbsolute addr => Sys2Proof.Machine.execLdyAbsolute addr s
  | .ldyAbsoluteX base => Sys2Proof.Machine.execLdyAbsoluteX base s
  | .staZeroPage zp => Sys2Proof.Machine.execStaZeroPage zp s
  | .staZeroPageX zp => Sys2Proof.Machine.execStaZeroPageX zp s
  | .staAbsolute addr => Sys2Proof.Machine.execStaAbsolute addr s
  | .staAbsoluteX base => Sys2Proof.Machine.execStaAbsoluteX base s
  | .staAbsoluteY base => Sys2Proof.Machine.execStaAbsoluteY base s
  | .staIndexedIndirectDPX zp => Sys2Proof.Machine.execStaIndexedIndirectDPX zp s
  | .staIndirectIndexedDPY zp => Sys2Proof.Machine.execStaIndirectIndexedDPY zp s
  | .stxZeroPage zp => Sys2Proof.Machine.execStxZeroPage zp s
  | .stxZeroPageY zp => Sys2Proof.Machine.execStxZeroPageY zp s
  | .stxAbsolute addr => Sys2Proof.Machine.execStxAbsolute addr s
  | .styZeroPage zp => Sys2Proof.Machine.execStyZeroPage zp s
  | .styZeroPageX zp => Sys2Proof.Machine.execStyZeroPageX zp s
  | .styAbsolute addr => Sys2Proof.Machine.execStyAbsolute addr s
  | .tax => Sys2Proof.Machine.execTax s
  | .tay => Sys2Proof.Machine.execTay s
  | .txa => Sys2Proof.Machine.execTxa s
  | .tya => Sys2Proof.Machine.execTya s
  | .tsx => Sys2Proof.Machine.execTsx s
  | .txs => Sys2Proof.Machine.execTxs s
  | .andImmediate m => Sys2Proof.Machine.execAndImmediate m s
  | .andZeroPage zp => Sys2Proof.Machine.execAndZeroPage zp s
  | .andZeroPageX zp => Sys2Proof.Machine.execAndZeroPageX zp s
  | .andAbsolute addr => Sys2Proof.Machine.execAndAbsolute addr s
  | .andAbsoluteX base => Sys2Proof.Machine.execAndAbsoluteX base s
  | .andAbsoluteY base => Sys2Proof.Machine.execAndAbsoluteY base s
  | .andIndexedIndirectDPX zp => Sys2Proof.Machine.execAndIndexedIndirectDPX zp s
  | .andIndirectIndexedDPY zp => Sys2Proof.Machine.execAndIndirectIndexedDPY zp s
  | .oraImmediate m => Sys2Proof.Machine.execOraImmediate m s
  | .oraZeroPage zp => Sys2Proof.Machine.execOraZeroPage zp s
  | .oraZeroPageX zp => Sys2Proof.Machine.execOraZeroPageX zp s
  | .oraAbsolute addr => Sys2Proof.Machine.execOraAbsolute addr s
  | .oraAbsoluteX base => Sys2Proof.Machine.execOraAbsoluteX base s
  | .oraAbsoluteY base => Sys2Proof.Machine.execOraAbsoluteY base s
  | .oraIndexedIndirectDPX zp => Sys2Proof.Machine.execOraIndexedIndirectDPX zp s
  | .oraIndirectIndexedDPY zp => Sys2Proof.Machine.execOraIndirectIndexedDPY zp s
  | .eorImmediate m => Sys2Proof.Machine.execEorImmediate m s
  | .eorZeroPage zp => Sys2Proof.Machine.execEorZeroPage zp s
  | .eorZeroPageX zp => Sys2Proof.Machine.execEorZeroPageX zp s
  | .eorAbsolute addr => Sys2Proof.Machine.execEorAbsolute addr s
  | .eorAbsoluteX base => Sys2Proof.Machine.execEorAbsoluteX base s
  | .eorAbsoluteY base => Sys2Proof.Machine.execEorAbsoluteY base s
  | .eorIndexedIndirectDPX zp => Sys2Proof.Machine.execEorIndexedIndirectDPX zp s
  | .eorIndirectIndexedDPY zp => Sys2Proof.Machine.execEorIndirectIndexedDPY zp s
  | .bitZeroPage zp => Sys2Proof.Machine.execBitZeroPage zp s
  | .bitAbsolute addr => Sys2Proof.Machine.execBitAbsolute addr s
  | .incZeroPage zp => Sys2Proof.Machine.execIncZeroPage zp s
  | .incZeroPageX zp => Sys2Proof.Machine.execIncZeroPageX zp s
  | .incAbsolute addr => Sys2Proof.Machine.execIncAbsolute addr s
  | .incAbsoluteX base => Sys2Proof.Machine.execIncAbsoluteX base s
  | .decZeroPage zp => Sys2Proof.Machine.execDecZeroPage zp s
  | .decZeroPageX zp => Sys2Proof.Machine.execDecZeroPageX zp s
  | .decAbsolute addr => Sys2Proof.Machine.execDecAbsolute addr s
  | .decAbsoluteX base => Sys2Proof.Machine.execDecAbsoluteX base s
  | .inx => Sys2Proof.Machine.execInx s
  | .iny => Sys2Proof.Machine.execIny s
  | .dex => Sys2Proof.Machine.execDex s
  | .dey => Sys2Proof.Machine.execDey s
  | .clc => Sys2Proof.Machine.execClc s
  | .sec => Sys2Proof.Machine.execSec s
  | .cli => Sys2Proof.Machine.execCli s
  | .sei => Sys2Proof.Machine.execSei s
  | .cld => Sys2Proof.Machine.execCld s
  | .sed => Sys2Proof.Machine.execSed s
  | .clv => Sys2Proof.Machine.execClv s
  | .nop => Sys2Proof.Machine.execNop s

end Sys2Proof.Machine
end

