-- ==== Sys2Proof/Machine/Engine.lean ====
section
/-! DEFINITION. What a step does before an instruction's own effect: sampling the interrupt inputs, taking an interrupt,
fetching and decoding (40_engine.md R100, R101, R119, R120; 60_exceptions.md R306 to R310). -/

namespace Sys2Proof.Machine

open Sys2Proof.Config

/-- The interrupt a step takes (60_exceptions.md R309). -/
inductive Interrupt where
  | nmi
  | irq
  deriving DecidableEq, Repr

/-- What a step is to do: stop, be done (an interrupt was taken), or run an instruction. -/
inductive StepPlan where
  | stop (f : Fault)
  | done (t : State)
  | run (i : Instr) (t : State)
  deriving DecidableEq, Repr

/-- Drive the inputs to the levels given (true is active): a change of nmi from inactive to active sets nmi_pending
(R307). Without connected inputs nothing happens (R306). -/
def State.driveInputs (s : State) (nmi irq : Bool) : State :=
  if s.params.interruptsConnected then
    (s.setNmiPending (s.nmiPending || (!s.nmiLine && nmi))).setLines nmi irq
  else s

/-- The inputs' values at this step, free values when connected (R306, D35). The draw replaces the levels a host drove
between steps (R320): a DESIGN CHOICE (log entry 21). -/
def State.sampleInputs (s : State) : State :=
  if s.params.interruptsConnected then
    (s.driveInputs (nmiInput s.drawIndex) (irqInput s.drawIndex)).setDrawIndex (s.drawIndex + 1)
  else s

/-- The interrupt due at a step: a pending NMI before an IRQ, an IRQ only with I = 0 (R308, R309). -/
def State.interruptDue (s : State) : Option Interrupt :=
  if !s.params.interruptsConnected then none
  else if s.nmiPending then some .nmi
  else if s.irqLine && !s.p.i then some .irq
  else none

/-- Interrupt entry: the frame has bit 4 of P as 0, the stored B is not changed, an NMI clears nmi_pending (R310). -/
def State.enterInterrupt (s : State) (src : Interrupt) : State :=
  match src with
  | .nmi => (s.setNmiPending false).takeTrap s.pc (s.p.toByte &&& 0xEF#8) 0xFFFA#16
  | .irq => s.takeTrap s.pc (s.p.toByte &&& 0xEF#8) 0xFFFE#16

/-- Fetch: always three bytes, at PC, PC + 1 and PC + 2 modulo 65536, in that order (40_engine.md R101). -/
def State.fetch (s : State) : List Byte × State :=
  let b0 := s.memRead s.pc
  let b1 := b0.2.memRead (s.pc + 1#16)
  let b2 := b1.2.memRead (s.pc + 2#16)
  ([b0.1, b1.1, b2.1], b2.2)

/-- Fetch and decode; a decode failure makes the engine Halted and changes nothing else (R119). -/
def State.fetchPlan (s : State) : StepPlan :=
  let f := s.fetch
  match decode f.1 with
  | .error k => .stop (.halted k (f.2.setEngine (.halted k)))
  | .ok i => .run i f.2

/-- The plan of a running engine whose inputs have been sampled: an interrupt that is due before fetch and decode
(40_engine.md R100, 60_exceptions.md R309). -/
def State.runningPlan (s : State) : StepPlan :=
  match s.interruptDue with
  | some src => .done (s.enterInterrupt src)
  | none => s.fetchPlan

/-- The step up to the instruction's own effect: the engine state first (40_engine.md R100, R120). -/
def State.plan (s : State) : StepPlan :=
  match s.engine with
  | .unpowered => .stop .notPoweredOn
  | .halted k => .stop (.halted k s)
  | .running => s.sampleInputs.runningPlan

/-- Whether one of the three addresses a fetch at PC reads lies in an I/O window. -/
def State.fetchesIo (s : State) : Bool :=
  isIoWindow s.pc || isIoWindow (s.pc + 1#16) || isIoWindow (s.pc + 2#16)

/-- The parameters under which a fetch reads the stored bytes and no interrupt comes first: interrupts disconnected, and
stored I/O bytes where the fetch reads an I/O window. -/
def State.fetchParams (s : State) : Params :=
  { s.params with
    interruptsConnected := false
    ioModel := if s.fetchesIo then .storage else s.params.ioModel }

/-- The state with three bytes stored where the next fetch reads, and with all that the fetch needs: a running engine, a
ready Storage, and `fetchParams` (log entry 11). -/
def State.placeAtPc (s : State) (b0 b1 b2 : Byte) : State :=
  let t := { s with engine := .running, storageReady := true, params := s.fetchParams }
  ((t.storageWrite (translateAddr s.pc s.mode) b0).storageWrite (translateAddr (s.pc + 1#16) s.mode) b1).storageWrite
    (translateAddr (s.pc + 2#16) s.mode) b2

end Sys2Proof.Machine
end

