-- ==== Sys2Proof/Machine/Step.lean ====
section
/-! DEFINITION. One step of the machine (40_engine.md R100), and the placing of one instruction where it fetches. -/

namespace Sys2Proof.Machine

/-- `step()`: Continue is `next`; Halted(k) and NotPoweredOn are faults (40_engine.md R100, 60_exceptions.md R301). -/
def step (s : State) : Host.Outcome State Fault Refusal :=
  match s.plan with
  | .stop f => .fault f
  | .done t => .next t
  | .run i t => exec i t

/-- The state in which the next step fetches and runs the instruction whose bits are w, numbered as
spec/opcode_table.json numbers them. -/
def State.withFetchWord (s : State) (nbits w : Nat) : State :=
  let v := w % 2 ^ nbits
  s.placeAtPc (BitVec.ofNat 8 v) (BitVec.ofNat 8 (v / 256)) (BitVec.ofNat 8 (v / 65536))

end Sys2Proof.Machine
end

