-- ==== Sys2Proof/Machine/HostPort.lean ====
section
/-! DEFINITION. The operations the host performs between steps: Storage's contract, power-on, reset, the MTU, the loader's
boot order, the observation port, running to a halt and the outcome codes (00_scope.md R16, R17; 20_memory.md R59 to R62;
40_engine.md R125, R126; 60_exceptions.md R300, R320; 70_reset_and_hazards.md R330 to R336). -/

namespace Sys2Proof.Machine

open Sys2Proof.Config

/-- The errors a host operation can return (60_exceptions.md R304, R305). -/
inductive HostError where
  /-- reset before power_on (R304). -/
  | notPoweredOn
  /-- Storage failed to allocate: a hardware model never returns it (R305). -/
  | allocError
  deriving DecidableEq, Repr

/-- The register file, as the observation port reads it (10_state.md R20, 00_scope.md R17). -/
structure RegisterFile where
  a : Byte
  x : Byte
  y : Byte
  sp : Byte
  pc : Word
  p : Status
  deriving DecidableEq, Repr

/-- `Storage.power_on`: zero-fill, and nothing on a second call (20_memory.md R60, R61). -/
def State.storagePowerOn (s : State) : State :=
  if s.storageReady then s else (s.setMem []).setStorageReady true

/-- Write bytes at ascending offsets, directly and not through the MTU (20_memory.md R62). -/
def State.storageLoadBytes (s : State) (offset : Nat) : List Byte → State
  | [] => s
  | v :: rest => (s.storageWrite (BitVec.ofNat 16 offset) v).storageLoadBytes (offset + 1) rest

/-- `Storage.load(offset, bytes)` (20_memory.md R62); bytes past offset 0xFFFF are refused (log entry 9). -/
def State.storageLoad (s : State) (offset : Word) (bytes : List Byte) : Host.Outcome State Fault Refusal :=
  if 65536 < offset.toNat + bytes.length then .refused .loadOutOfRange
  else .next (s.storageLoadBytes offset.toNat bytes)

/-- `Engine::power_on(mode)`, in any engine state (70_reset_and_hazards.md R330, R331). -/
def State.powerOn (s : State) (mode : MemoryMode) : State :=
  let s1 := s.storagePowerOn.setMode mode
  let s2 := (((s1.setA 0x00#8).setX 0x00#8).setY 0x00#8).setSp 0xFD#8
  let s3 := (s2.setP (Status.ofByte s.params.pPowerOn)).memWrite 0x4015#16 0x00#8
  let v := (s3.memWrite 0x4017#16 0x00#8).read16 0xFFFC#16 0xFFFD#16
  ((v.2.setPc v.1).setNmiPending false).setEngine .running

/-- The result of `Engine::power_on`: always Ok (60_exceptions.md R305). -/
def State.powerOnResult (s : State) (mode : MemoryMode) : Except HostError State := .ok (s.powerOn mode)

/-- The reset sequence of a powered engine (70_reset_and_hazards.md R333, R335). -/
def State.resetSequence (s : State) : State :=
  let s1 := (s.setSp (s.sp - 3#8)).setP { s.p with i := true }
  let s2 := s1.memWrite 0x4015#16 0x00#8
  let v := s2.read16 0xFFFC#16 0xFFFD#16
  let s3 := if s.params.resetLoadsPc then v.2.setPc v.1 else s2
  (s3.setNmiPending false).setEngine .running

/-- `Engine::reset()` (70_reset_and_hazards.md R333, R334). -/
def State.hostReset (s : State) : Except HostError State :=
  match s.engine with
  | .unpowered => .error .notPoweredOn
  | .running | .halted _ => .ok s.resetSequence

/-- `Mtu::read(addr)` by the host (20_memory.md R59). -/
def State.mtuRead (s : State) (addr : Word) : Byte × State := s.memRead addr

/-- `Mtu::write(addr, v)` by the host (20_memory.md R59). -/
def State.mtuWrite (s : State) (addr : Word) (v : Byte) : State := s.memWrite addr v

/-- The MemoryMode the loader passes for a PRG of prgSize 16KB units (70_reset_and_hazards.md R336). -/
def loaderMode (prgSize : Byte) : MemoryMode := if prgSize = 1#8 then .nrom128 else .nrom256

/-- The boot order: Storage power-on, load at 0x8000, engine power-on (70_reset_and_hazards.md R336); an image over 32KB
is refused (D33). -/
def State.boot (s : State) (prgSize : Byte) (prg : List Byte) : Host.Outcome State Fault Refusal :=
  if 32768 < prg.length then .refused .imageTooLarge
  else
    match s.storagePowerOn.storageLoad 0x8000#16 prg with
    | .next t => .next (t.powerOn (loaderMode prgSize))
    | .fault f => .fault f
    | .refused r => .refused r

/-- The observation port: the register file, which does not exist in Unpowered (00_scope.md R17, 10_state.md R42). -/
def State.observe (s : State) : Except Fault RegisterFile :=
  match s.engine with
  | .unpowered => .error .registerFileAbsent
  | .running | .halted _ => .ok ⟨s.a, s.x, s.y, s.sp, s.pc, s.p⟩

/-- The code of a decode error (60_exceptions.md R300). -/
def decodeErrorCode : DecodeError → Nat
  | .unknownOpcode => 1
  | .truncatedBuffer => 2

/-- The code of a host error (60_exceptions.md R300). -/
def hostErrorCode : HostError → Nat
  | .notPoweredOn => 3
  | .allocError => 4

/-- The code of a step's outcome (60_exceptions.md R300); what R300 gives no code has none. -/
def stepCode : Host.Outcome State Fault Refusal → Option Nat
  | .next _ => some 0
  | .fault (.halted k _) => some (decodeErrorCode k)
  | .fault .notPoweredOn => some (hostErrorCode .notPoweredOn)
  | .fault .registerFileAbsent => none
  | .refused _ => none

/-- The state a host finds after an outcome of a machine that was in s: the next state, the halted state, or s unchanged
(40_engine.md R119, R120). -/
def stateAfter (s : State) : Host.Outcome State Fault Refusal → State
  | .next t => t
  | .fault (.halted _ t) => t
  | .fault .notPoweredOn => s
  | .fault .registerFileAbsent => s
  | .refused _ => s

/-- The state a host finds after a step (40_engine.md R119, R120). -/
def State.afterStep (s : State) : State := stateAfter s (step s)

/-- `run(n)`: `step()` until it returns Halted or n steps have run (40_engine.md R125). `next` is the host's bound running
out, a `halted` fault is the end that is a state of the engine (R126); NotPoweredOn ends a run as it ends a step. -/
def State.run (s : State) : Nat → Host.Outcome State Fault Refusal
  | 0 => .next s
  | n + 1 =>
    match step s with
    | .next t => t.run n
    | .fault f => .fault f
    | .refused r => .refused r

/-- The state a host finds after `run(n)` (40_engine.md R125, R126). -/
def State.afterRun (s : State) (n : Nat) : State := stateAfter s (s.run n)

end Sys2Proof.Machine
end

