-- ==== Sys2Proof/WellFormed.lean ====
section
/-! DEFINITION. Well-formedness: an instruction description names a populated opcode, has that opcode's length, and an
operand that fits its operand bytes (00_scope.md R8, 30_encoding.md R82 to R84). An `Instr` is well-formed when its
description is. -/

namespace Sys2Proof

/-- The opcode has a dispatch entry (30_encoding.md R85). -/
def InstructionDescription.populated (d : InstructionDescription) : Bool := (dispatch d.opcode).isSome

/-- The size is that of the opcode's addressing mode (30_encoding.md R82). -/
def InstructionDescription.sizeFits (d : InstructionDescription) : Bool := d.size == instructionWidth d.opcode

/-- The operand fits the operand bytes: 0 for a 1-byte instruction, below 256 for a 2-byte one (30_encoding.md R83). -/
def InstructionDescription.operandFits (d : InstructionDescription) : Bool :=
  decide (d.operand.toNat < 256 ^ (d.size - 1))

/-- All three checks (30_encoding.md R84). -/
def InstructionDescription.wf (d : InstructionDescription) : Bool := d.populated && d.sizeFits && d.operandFits

/-- An instruction is well-formed when its description is. -/
def Instr.wf (i : Instr) : Bool := i.describe.wf

end Sys2Proof
end

