-- ==== Sys2Proof/Safety.lean ====
section
/-! DEFINITION. What statements speak about: the invariant of the machine, the encodings of a mnemonic, the logical
addresses that alias, and the Storage offsets an instruction may write. -/

namespace Sys2Proof.Machine

/-- The invariant: memory is in canonical form, Storage is ready once the engine is powered (70_reset_and_hazards.md
R331), and disconnected interrupt inputs are inactive with nothing pending (10_state.md R39). -/
abbrev State.Inv (s : State) : Prop :=
  Memory.wf s.mem = true ∧ (s.engine ≠ .unpowered → s.storageReady = true) ∧
    (s.params.interruptsConnected = false → s.nmiPending = false ∧ s.nmiLine = false ∧ s.irqLine = false)

/-- Whether a write to a logical address changes Storage (20_memory.md R56, R61). -/
abbrev State.Writable (s : State) (addr : Word) : Prop :=
  s.storageReady = true ∧ (addr < 0x8000#16 ∨ s.params.prgWritable = true)

/-- Two logical addresses alias (20_memory.md R54), in numbers: the same address, both in RAM and equal modulo 2048, both
in the I/O register window and equal modulo 8, or under NROM128 both in the PRG window and equal modulo 16384. -/
abbrev Aliases (mode : Config.MemoryMode) (a b : Nat) : Prop :=
  a = b ∨ (a ≤ 0x1FFF ∧ b ≤ 0x1FFF ∧ a % 2048 = b % 2048) ∨
    (0x2000 ≤ a ∧ a ≤ 0x3FFF ∧ 0x2000 ≤ b ∧ b ≤ 0x3FFF ∧ a % 8 = b % 8) ∨
    (mode = .nrom128 ∧ 0x8000 ≤ a ∧ 0x8000 ≤ b ∧ a % 0x4000 = b % 0x4000)

/-- The logical addresses the instruction stores to in a state, in the order of its stores: the effective address of a
Memory kind (40_engine.md R115), the stack slots of a push (20_memory.md R67), nothing for any other. -/
def storesTo (i : Instr) (s : State) : List Word :=
  match i.kind with
  | .memory => [s.effectiveAddress i.mode i.operand]
  | .register | .controlFlow =>
    match i.mnemonic with
    | .pha | .php => [stackAddr s.sp]
    | .jsr => [stackAddr s.sp, stackAddr (s.sp - 1#8)]
    | .brk => [stackAddr s.sp, stackAddr (s.sp - 1#8), stackAddr (s.sp - 2#8)]
    | _ => []

/-- What a step does to the state it leaves: the same change in the next state, and in the state a Halted engine is left
in. -/
def mapOutcome (f : State → State) : Host.Outcome State Fault Refusal → Host.Outcome State Fault Refusal
  | .next t => .next (f t)
  | .fault (.halted k t) => .fault (.halted k (f t))
  | .fault .notPoweredOn => .fault .notPoweredOn
  | .fault .registerFileAbsent => .fault .registerFileAbsent
  | .refused r => .refused r

end Sys2Proof.Machine

namespace Sys2Proof

/-- The instructions of a mnemonic are exactly those with the opcode bytes and modes listed (30_encoding.md R91). -/
abbrev HasForms (m : Mnemonic) (forms : List (Byte × Mode)) : Prop :=
  ∀ i : Instr, i.mnemonic = m ↔ (i.opcode, i.mode) ∈ forms

end Sys2Proof
end

