-- ==== Sys2Proof/Certificates/Slice0/Obligations.lean ====
section
/-! DEFINITION. The statements for the provers. Where a read of an I/O window is a free byte (`IO_MODEL = draw`) an
instruction also advances the model's own draw counter: the statements say "for some d, ... drawIndex := d", and
StepIgnoresTheDrawCounter says that nothing depends on it under the default parameters. -/

open Sys2Proof Sys2Proof.Machine Sys2Proof.Config

/-- Encodings of every family, bit by bit from the opcode map, decode to their instructions (30_encoding.md section 4). -/
def Obligations.SampleWordsDecode : Prop :=
  decode [0b01101001#8, 0x05#8, 0x00#8] = .ok (.adcImmediate 0x05#8) ∧
  decode [0b11110001#8, 0x10#8, 0x00#8] = .ok (.sbcIndirectIndexedDPY 0x10#8) ∧
  decode [0b11011101#8, 0x34#8, 0x12#8] = .ok (.cmpAbsoluteX 0x1234#16) ∧
  decode [0b01101110#8, 0x00#8, 0x03#8] = .ok (.rorAbsolute 0x0300#16) ∧
  decode [0b00001010#8, 0x00#8, 0x00#8] = .ok .aslAccumulator ∧
  decode [0b11010000#8, 0xFE#8, 0x99#8] = .ok (.bne 0xFE#8) ∧
  decode [0b01101100#8, 0xFF#8, 0x30#8] = .ok (.jmpIndirectAbsolute 0x30FF#16) ∧
  decode [0b00100000#8, 0x34#8, 0x12#8] = .ok (.jsr 0x1234#16) ∧
  decode [0b00000000#8, 0x00#8, 0x00#8] = .ok .brk ∧
  decode [0b01000000#8, 0x00#8, 0x00#8] = .ok .rti ∧
  decode [0b00001000#8, 0x00#8, 0x00#8] = .ok .php ∧
  decode [0b10100001#8, 0xFE#8, 0x00#8] = .ok (.ldaIndexedIndirectDPX 0xFE#8) ∧
  decode [0b10010110#8, 0xFF#8, 0x00#8] = .ok (.stxZeroPageY 0xFF#8) ∧
  decode [0b10011010#8, 0x00#8, 0x00#8] = .ok .txs ∧
  decode [0b00101100#8, 0x10#8, 0x00#8] = .ok (.bitAbsolute 0x0010#16) ∧
  decode [0b11010110#8, 0x10#8, 0x00#8] = .ok (.decZeroPageX 0x10#8) ∧
  decode [0b11101010#8, 0x11#8, 0x22#8] = .ok .nop

/-- Every instruction, at every operand value, is what its encoding decodes to, and bytes after it are ignored (30_encoding.md sections 1 to 3). -/
def Obligations.DecodeInvertsEncode : Prop :=
  ∀ (i : Instr) (rest : List Byte),
    i.wf = true ∧ decode (encode i ++ rest) = .ok i ∧ Sys2Proof.describe (encode i ++ rest) = .ok i.describe

/-- The other direction: what decodes to an instruction begins with that instruction's encoding (30_encoding.md sections 1, 4). -/
def Obligations.EncodeInvertsDecode : Prop :=
  ∀ (bytes : List Byte) (i : Instr), decode bytes = .ok i → bytes.take i.length = encode i

/-- R84, R86: an empty buffer is TruncatedBuffer, UnknownOpcode comes before TruncatedBuffer, extra bytes are ignored, and the operand is assembled little-endian. -/
def Obligations.DecoderContract : Prop :=
  Sys2Proof.describe [] = .error .truncatedBuffer ∧
  ∀ (op : Byte) (rest : List Byte),
    (dispatch op = none → Sys2Proof.describe (op :: rest) = .error .unknownOpcode) ∧
    ∀ e, dispatch op = some e →
      (rest.length + 1 < e.mode.length → Sys2Proof.describe (op :: rest) = .error .truncatedBuffer) ∧
      (e.mode.length ≤ rest.length + 1 →
        ∃ w : Word, Sys2Proof.describe (op :: rest) = .ok ⟨op, e.mode.length, w⟩ ∧
          (e.mode.length = 1 → w.toNat = 0) ∧
          (e.mode.length = 2 → ∃ b1 tail, rest = b1 :: tail ∧ w.toNat = b1.toNat) ∧
          (e.mode.length = 3 → ∃ b1 b2 tail, rest = b1 :: b2 :: tail ∧ w.toNat = b1.toNat + 256 * b2.toNat))

/-- R85: the opcodes with no dispatch entry are the 105 of R88, and decode fails with UnknownOpcode on each. -/
def Obligations.UnpopulatedOpcodesFail : Prop :=
  let unpopulated : List Byte := [
    0x02#8, 0x03#8, 0x04#8, 0x07#8, 0x0B#8, 0x0C#8, 0x0F#8, 0x12#8, 0x13#8, 0x14#8, 0x17#8, 0x1A#8, 0x1B#8, 0x1C#8, 0x1F#8,
    0x22#8, 0x23#8, 0x27#8, 0x2B#8, 0x2F#8, 0x32#8, 0x33#8, 0x34#8, 0x37#8, 0x3A#8, 0x3B#8, 0x3C#8, 0x3F#8, 0x42#8, 0x43#8,
    0x44#8, 0x47#8, 0x4B#8, 0x4F#8, 0x52#8, 0x53#8, 0x54#8, 0x57#8, 0x5A#8, 0x5B#8, 0x5C#8, 0x5F#8, 0x62#8, 0x63#8, 0x64#8,
    0x67#8, 0x6B#8, 0x6F#8, 0x72#8, 0x73#8, 0x74#8, 0x77#8, 0x7A#8, 0x7B#8, 0x7C#8, 0x7F#8, 0x80#8, 0x82#8, 0x83#8, 0x87#8,
    0x89#8, 0x8B#8, 0x8F#8, 0x92#8, 0x93#8, 0x97#8, 0x9B#8, 0x9C#8, 0x9E#8, 0x9F#8, 0xA3#8, 0xA7#8, 0xAB#8, 0xAF#8, 0xB2#8,
    0xB3#8, 0xB7#8, 0xBB#8, 0xBF#8, 0xC2#8, 0xC3#8, 0xC7#8, 0xCB#8, 0xCF#8, 0xD2#8, 0xD3#8, 0xD4#8, 0xD7#8, 0xDA#8, 0xDB#8,
    0xDC#8, 0xDF#8, 0xE2#8, 0xE3#8, 0xE7#8, 0xEB#8, 0xEF#8, 0xF2#8, 0xF3#8, 0xF4#8, 0xF7#8, 0xFA#8, 0xFB#8, 0xFC#8, 0xFF#8]
  unpopulated.length = 105 ∧
  (∀ op : Byte, dispatch op = none ↔ op ∈ unpopulated) ∧
  ∀ (op : Byte) (rest : List Byte), op ∈ unpopulated →
    decode (op :: rest) = .error .unknownOpcode ∧ Sys2Proof.describe (op :: rest) = .error .unknownOpcode

/-- R82, R87: lengths by addressing mode alone, the decoded size consistent with it, and instruction_width. -/
def Obligations.LengthsFollowModes : Prop :=
  Mode.implied.length = 1 ∧ Mode.accumulator.length = 1 ∧
  Mode.immediate.length = 2 ∧ Mode.zeroPage.length = 2 ∧ Mode.zeroPageX.length = 2 ∧ Mode.zeroPageY.length = 2 ∧
  Mode.indexedIndirectDPX.length = 2 ∧ Mode.indirectIndexedDPY.length = 2 ∧ Mode.relative.length = 2 ∧
  Mode.absolute.length = 3 ∧ Mode.absoluteX.length = 3 ∧ Mode.absoluteY.length = 3 ∧
  Mode.indirectAbsolute.length = 3 ∧
  (∀ bytes d, Sys2Proof.describe bytes = .ok d → ∃ e, dispatch d.opcode = some e ∧ d.size = e.mode.length) ∧
  (∀ op e, dispatch op = some e → instructionWidth op = e.mode.length) ∧
  (∀ op, dispatch op = none → instructionWidth op = 1) ∧
  ∀ i : Instr, i.length = i.mode.length ∧ instructionWidth i.opcode = i.length ∧ (encode i).length = i.length

/-- The dispatch table's slots and the destination kinds (40_engine.md section 3). -/
def Obligations.DispatchSlotsMatchInstructions : Prop :=
  ∀ i : Instr,
    (∃ e, dispatch i.opcode = some e ∧ e.mnemonic = i.mnemonic ∧ e.mode = i.mode ∧ e.kind = i.kind ∧
      e.build i.operand = i) ∧
    (i.kind = .controlFlow ↔ i.mnemonic ∈ ([.bcc, .bcs, .beq, .bne, .bmi, .bpl, .bvc, .bvs, .jmp, .jsr, .rts, .rti,
      .brk] : List Mnemonic)) ∧
    (i.kind = .memory ↔ i.mnemonic ∈ ([.sta, .stx, .sty, .inc, .dec] : List Mnemonic) ∨
      (i.mnemonic ∈ ([.asl, .lsr, .rol, .ror] : List Mnemonic) ∧ i.mode ≠ .accumulator))

/-- R51, R52: the translation of a logical address to a Storage offset. -/
def Obligations.TranslationFollowsTheMap : Prop :=
  ∀ (a : Word) (m : MemoryMode),
    ((translateAddr a m).toNat =
      if a.toNat ≤ 0x1FFF then a.toNat % 2048
      else if a.toNat ≤ 0x3FFF then 0x2000 + a.toNat % 8
      else if 0x8000 ≤ a.toNat ∧ m = .nrom128 then 0x8000 + a.toNat % 0x4000
      else a.toNat) ∧
    (0x4000 ≤ a.toNat → translateAddr a .nrom256 = a) ∧
    (a.toNat < 0x8000 → translateAddr a .nrom128 = translateAddr a .nrom256)

/-- R54: which logical addresses name the same Storage byte, and that a write through one is seen through any other. -/
def Obligations.AliasesShareAByte : Prop :=
  (∀ (a b : Word) (m : MemoryMode), translateAddr a m = translateAddr b m ↔ Aliases m a.toNat b.toNat) ∧
  ∀ (s : State) (a b : Word) (v : Byte), s.Writable a → translateAddr a s.mode = translateAddr b s.mode →
    (s.memWrite a v).peek b = v

/-- R56: MemWrite, and the alternative PRG_WRITABLE = false. -/
def Obligations.WriteStoresOneByte : Prop :=
  ∀ (s : State) (a : Word) (v : Byte),
    s.memWrite a v = { s with mem := (s.memWrite a v).mem } ∧
    (s.Writable a → ∀ o : Word,
      (s.memWrite a v).storageRead o = if o = translateAddr a s.mode then v else s.storageRead o) ∧
    (0x8000 ≤ a.toNat → s.params.prgWritable = false → s.memWrite a v = s)

/-- R55, with the free byte of IO_MODEL = draw in the two I/O windows (R57, D13). That the free byte is ioDraw of drawIndex, and that a draw advances drawIndex by one, is the model's choice and the counter the model's own (log entry 4). -/
def Obligations.ReadHasNoSideEffect : Prop :=
  ∀ (s : State) (a : Word),
    (s.params.ioModel = .storage → s.memRead a = (s.storageRead (translateAddr a s.mode), s)) ∧
    (a.toNat < 0x2000 ∨ 0x401F < a.toNat → s.memRead a = (s.storageRead (translateAddr a s.mode), s)) ∧
    (s.params.ioModel = .draw → 0x2000 ≤ a.toNat → a.toNat ≤ 0x401F →
      s.memRead a = (ioDraw s.drawIndex, { s with drawIndex := s.drawIndex + 1 }))

/-- R61: Storage before its power_on, the zero-fill, and the second call. -/
def Obligations.StorageBeforeAndAtPowerOn : Prop :=
  ∀ s : State,
    (s.storageReady = false →
      (∀ o, s.storageRead o = 0#8) ∧ (∀ o v, s.storageWrite o v = s) ∧ (∀ a v, s.memWrite a v = s) ∧
      s.storagePowerOn = { s with storageReady := true, mem := s.storagePowerOn.mem } ∧
      ∀ o, s.storagePowerOn.storageRead o = 0#8) ∧
    (s.storageReady = true → s.storagePowerOn = s)

/-- Storage.load and the boot order (20_memory.md section 3, 70_reset_and_hazards.md section 3); the refusal of a load past 0xFFFF is log entry 9. -/
def Obligations.LoadAndBoot : Prop :=
  (∀ (s : State) (offset : Word) (bytes : List Byte), s.storageReady = true →
    (offset.toNat + bytes.length ≤ 65536 → ∃ t, s.storageLoad offset bytes = .next t ∧
      t = { s with mem := t.mem } ∧
      ∀ o : Word, t.storageRead o =
        if h : offset.toNat ≤ o.toNat ∧ o.toNat < offset.toNat + bytes.length
        then bytes[o.toNat - offset.toNat]'(by omega) else s.storageRead o) ∧
    (65536 < offset.toNat + bytes.length → s.storageLoad offset bytes = .refused .loadOutOfRange)) ∧
  ∀ (s : State) (prgSize : Byte) (prg : List Byte),
    (prg.length ≤ 32768 → ∃ t, s.boot prgSize prg = .next t ∧ t.engine = .running ∧
      t.mode = (if prgSize = 1#8 then .nrom128 else .nrom256) ∧
      t.pc = wordOf (t.peek 0xFFFC#16) (t.peek 0xFFFD#16) ∧
      ∀ (k : Nat) (h : k < prg.length), t.storageRead (BitVec.ofNat 16 (0x8000 + k)) = prg[k]) ∧
    (32768 < prg.length → s.boot prgSize prg = .refused .imageTooLarge)

/-- R67, R68: Push and Pull, S wrapping, and their round trip. -/
def Obligations.PushAndPullUseTheStackPage : Prop :=
  ∀ (s : State) (v : Byte),
    s.push v = { s with mem := (s.push v).mem, sp := BitVec.ofNat 8 (s.sp.toNat + 255) } ∧
    (s.storageReady = true → ∀ o : Word, (s.push v).storageRead o =
      if o.toNat = 0x0100 + s.sp.toNat then v else s.storageRead o) ∧
    s.pull = (s.storageRead (BitVec.ofNat 16 (0x0100 + (s.sp.toNat + 1) % 256)),
      { s with sp := BitVec.ofNat 8 (s.sp.toNat + 1) }) ∧
    (s.storageReady = true → (s.push v).pull = (v, { s with mem := (s.push v).mem }))

/-- R103, R105, R106, R107 (and ZeroPage, Absolute of 40_engine.md section 2): the resolver, its wraps, and that it writes no state. -/
def Obligations.EffectiveAddressesByMode : Prop :=
  ∀ (s : State) (b : Byte) (w : Word),
    let at_ (n : Nat) : Nat := (s.storageRead (BitVec.ofNat 16 n)).toNat
    (s.resolve .zeroPage (zext b)).1.toNat = b.toNat ∧
    (s.resolve .absolute w).1 = w ∧
    (s.resolve .zeroPageX (zext b)).1.toNat = (b.toNat + s.x.toNat) % 256 ∧
    (s.resolve .zeroPageY (zext b)).1.toNat = (b.toNat + s.y.toNat) % 256 ∧
    (s.resolve .absoluteX w).1.toNat = (w.toNat + s.x.toNat) % 65536 ∧
    (s.resolve .absoluteY w).1.toNat = (w.toNat + s.y.toNat) % 65536 ∧
    (s.resolve .indexedIndirectDPX (zext b)).1.toNat =
      at_ ((b.toNat + s.x.toNat) % 256) + 256 * at_ (((b.toNat + s.x.toNat) % 256 + 1) % 256) ∧
    (s.resolve .indirectIndexedDPY (zext b)).1.toNat =
      (at_ b.toNat + 256 * at_ ((b.toNat + 1) % 256) + s.y.toNat) % 65536 ∧
    ∀ mode : Mode, mode ≠ .indirectAbsolute → (s.resolve mode w).2 = s

/-- Where M comes from (40_engine.md section 3). -/
def Obligations.OperandValuesByMode : Prop :=
  ∀ (s : State) (b : Byte) (mode : Mode) (w : Word),
    s.operandRead .accumulator w = (s.a, s) ∧
    s.operandRead .immediate (zext b) = (b, s) ∧
    (mode ≠ .accumulator → mode ≠ .immediate →
      s.operandRead mode w = (s.resolve mode w).2.memRead (s.resolve mode w).1) ∧
    (s.params.ioModel = .storage → mode ≠ .accumulator → mode ≠ .immediate →
      s.operandRead mode w = (s.peek (s.effectiveAddress mode w), s)) ∧
    ∃ d, (s.operandRead mode w).2 = { s with drawIndex := d }

/-- R140: ADC. M is the operand value of the form (OperandValuesByMode). -/
def Obligations.AdcAddsWithCarry : Prop :=
  HasForms .adc [
      (0x69#8, .immediate), (0x65#8, .zeroPage), (0x75#8, .zeroPageX), (0x6D#8, .absolute),
      (0x7D#8, .absoluteX), (0x79#8, .absoluteY), (0x61#8, .indexedIndirectDPX), (0x71#8, .indirectIndexedDPY)] ∧
  ∀ (i : Instr) (s : State), i.mnemonic = .adc →
    let m := s.operandValue i.mode i.operand
    let sum := s.a.toNat + m.toNat + (if s.p.c then 1 else 0)
    let r : Byte := BitVec.ofNat 8 sum
    ∃ d, exec i s = .next { s with
      a := r
      p := { s.p with n := r.msb, v := s.a.msb == m.msb && r.msb != s.a.msb, z := decide (r = 0#8), c := decide (255 < sum) }
      pc := s.pc + BitVec.ofNat 16 i.length
      drawIndex := d }

/-- R141: SBC, as subtraction with borrow 1 - C, with the overflow of the sum with 0xFF - M. -/
def Obligations.SbcSubtractsWithBorrow : Prop :=
  HasForms .sbc [
      (0xE9#8, .immediate), (0xE5#8, .zeroPage), (0xF5#8, .zeroPageX), (0xED#8, .absolute),
      (0xFD#8, .absoluteX), (0xF9#8, .absoluteY), (0xE1#8, .indexedIndirectDPX), (0xF1#8, .indirectIndexedDPY)] ∧
  ∀ (i : Instr) (s : State), i.mnemonic = .sbc →
    let m := s.operandValue i.mode i.operand
    let borrow : Nat := if s.p.c then 0 else 1
    let r : Byte := BitVec.ofInt 8 ((s.a.toNat : Int) - m.toNat - borrow)
    let mc : Byte := BitVec.ofNat 8 (255 - m.toNat)
    ∃ d, exec i s = .next { s with
      a := r
      p := { s.p with n := r.msb, v := s.a.msb == mc.msb && r.msb != s.a.msb, z := decide (r = 0#8), c := decide (m.toNat + borrow ≤ s.a.toNat) }
      pc := s.pc + BitVec.ofNat 16 i.length
      drawIndex := d }

/-- What the overflow formula of 41_arithmetic_compare.md means in two's complement. -/
def Obligations.OverflowIsSignedOverflow : Prop :=
  ∀ (p : Status) (a m : Byte),
    ((p.afterAdd a m).v = true ↔
      a.toInt + m.toInt + (if p.c then 1 else 0) < -128 ∨ 127 < a.toInt + m.toInt + (if p.c then 1 else 0)) ∧
    ((p.afterAdd a (0xFF#8 - m)).v = true ↔
      a.toInt - m.toInt - (if p.c then 0 else 1) < -128 ∨ 127 < a.toInt - m.toInt - (if p.c then 0 else 1))

/-- R142, R143, R144: the compares. -/
def Obligations.ComparesSetNZC : Prop :=
  HasForms .cmp [
      (0xC9#8, .immediate), (0xC5#8, .zeroPage), (0xD5#8, .zeroPageX), (0xCD#8, .absolute),
      (0xDD#8, .absoluteX), (0xD9#8, .absoluteY), (0xC1#8, .indexedIndirectDPX), (0xD1#8, .indirectIndexedDPY)] ∧
  HasForms .cpx [(0xE0#8, .immediate), (0xE4#8, .zeroPage), (0xEC#8, .absolute)] ∧ HasForms .cpy [(0xC0#8, .immediate), (0xC4#8, .zeroPage), (0xCC#8, .absolute)] ∧
  ∀ (i : Instr) (s : State),
    let m := s.operandValue i.mode i.operand
    let compared (r : Byte) : Prop := ∃ d, exec i s = .next { s with
      p := { s.p with n := (r - m).msb, z := decide (r = m), c := decide (m.toNat ≤ r.toNat) }
      pc := s.pc + BitVec.ofNat 16 i.length
      drawIndex := d }
    (i.mnemonic = .cmp → compared s.a) ∧ (i.mnemonic = .cpx → compared s.x) ∧ (i.mnemonic = .cpy → compared s.y)

/-- R160, R161: ASL and LSR on A and on memory. -/
def Obligations.AslAndLsrShiftOneBit : Prop :=
  HasForms .asl [
      (0x0A#8, .accumulator), (0x06#8, .zeroPage), (0x16#8, .zeroPageX), (0x0E#8, .absolute),
      (0x1E#8, .absoluteX)] ∧
  HasForms .lsr [
      (0x4A#8, .accumulator), (0x46#8, .zeroPage), (0x56#8, .zeroPageX), (0x4E#8, .absolute),
      (0x5E#8, .absoluteX)] ∧
  ∀ (i : Instr) (s : State),
    let v := s.operandValue i.mode i.operand
    let shifted (r : Byte) (c : Bool) : Prop :=
      (i.mode = .accumulator → exec i s = .next { s with
        a := r
        p := { s.p with n := r.msb, z := decide (r = 0#8), c := c }
        pc := s.pc + BitVec.ofNat 16 i.length }) ∧
      (i.mode ≠ .accumulator → ∃ d, exec i s = .next { s with
        mem := (s.memWrite (s.effectiveAddress i.mode i.operand) r).mem
        p := { s.p with n := r.msb, z := decide (r = 0#8), c := c }
        pc := s.pc + BitVec.ofNat 16 i.length
        drawIndex := d })
    (i.mnemonic = .asl → shifted (BitVec.ofNat 8 (2 * v.toNat)) (v.getLsbD 7)) ∧
    (i.mnemonic = .lsr → shifted (BitVec.ofNat 8 (v.toNat / 2)) (v.getLsbD 0))

/-- R162, R163: ROL and ROR on A and on memory. -/
def Obligations.RolAndRorRotateThroughCarry : Prop :=
  HasForms .rol [
      (0x2A#8, .accumulator), (0x26#8, .zeroPage), (0x36#8, .zeroPageX), (0x2E#8, .absolute),
      (0x3E#8, .absoluteX)] ∧
  HasForms .ror [
      (0x6A#8, .accumulator), (0x66#8, .zeroPage), (0x76#8, .zeroPageX), (0x6E#8, .absolute),
      (0x7E#8, .absoluteX)] ∧
  ∀ (i : Instr) (s : State),
    let v := s.operandValue i.mode i.operand
    let cin : Nat := if s.p.c then 1 else 0
    let shifted (r : Byte) (c : Bool) : Prop :=
      (i.mode = .accumulator → exec i s = .next { s with
        a := r
        p := { s.p with n := r.msb, z := decide (r = 0#8), c := c }
        pc := s.pc + BitVec.ofNat 16 i.length }) ∧
      (i.mode ≠ .accumulator → ∃ d, exec i s = .next { s with
        mem := (s.memWrite (s.effectiveAddress i.mode i.operand) r).mem
        p := { s.p with n := r.msb, z := decide (r = 0#8), c := c }
        pc := s.pc + BitVec.ofNat 16 i.length
        drawIndex := d })
    (i.mnemonic = .rol → shifted (BitVec.ofNat 8 (2 * v.toNat + cin)) (v.getLsbD 7)) ∧
    (i.mnemonic = .ror → shifted (BitVec.ofNat 8 (v.toNat / 2 + 128 * cin)) (v.getLsbD 0))

/-- R260, R261, R262: AND, ORA, EOR, bit by bit. -/
def Obligations.LogicOnTheAccumulator : Prop :=
  HasForms .and [
      (0x29#8, .immediate), (0x25#8, .zeroPage), (0x35#8, .zeroPageX), (0x2D#8, .absolute),
      (0x3D#8, .absoluteX), (0x39#8, .absoluteY), (0x21#8, .indexedIndirectDPX), (0x31#8, .indirectIndexedDPY)] ∧
  HasForms .ora [
      (0x09#8, .immediate), (0x05#8, .zeroPage), (0x15#8, .zeroPageX), (0x0D#8, .absolute),
      (0x1D#8, .absoluteX), (0x19#8, .absoluteY), (0x01#8, .indexedIndirectDPX), (0x11#8, .indirectIndexedDPY)] ∧
  HasForms .eor [
      (0x49#8, .immediate), (0x45#8, .zeroPage), (0x55#8, .zeroPageX), (0x4D#8, .absolute),
      (0x5D#8, .absoluteX), (0x59#8, .absoluteY), (0x41#8, .indexedIndirectDPX), (0x51#8, .indirectIndexedDPY)] ∧
  ∀ (i : Instr) (s : State),
    let m := s.operandValue i.mode i.operand
    let combined (f : Bool → Bool → Bool) : Prop := ∃ (r : Byte) (d : Nat),
      (∀ k < 8, r.getLsbD k = f (s.a.getLsbD k) (m.getLsbD k)) ∧
      exec i s = .next { s with
        a := r
        p := { s.p with n := r.getLsbD 7, z := decide (r = 0#8) }
        pc := s.pc + BitVec.ofNat 16 i.length
        drawIndex := d }
    (i.mnemonic = .and → combined (· && ·)) ∧ (i.mnemonic = .ora → combined (· || ·)) ∧
    (i.mnemonic = .eor → combined (fun x y => x != y))

/-- R263: BIT. -/
def Obligations.BitTestsMemory : Prop :=
  HasForms .bit [(0x24#8, .zeroPage), (0x2C#8, .absolute)] ∧
  ∀ (i : Instr) (s : State), i.mnemonic = .bit →
    let m := s.operandValue i.mode i.operand
    ∃ d, exec i s = .next { s with
      p := { s.p with n := m.getLsbD 7, v := m.getLsbD 6, z := (List.range 8).all (fun k => !(s.a.getLsbD k && m.getLsbD k)) }
      pc := s.pc + BitVec.ofNat 16 i.length
      drawIndex := d }

/-- R264, R265: INC and DEC. -/
def Obligations.IncAndDecMemory : Prop :=
  HasForms .inc [(0xE6#8, .zeroPage), (0xF6#8, .zeroPageX), (0xEE#8, .absolute), (0xFE#8, .absoluteX)] ∧
  HasForms .dec [(0xC6#8, .zeroPage), (0xD6#8, .zeroPageX), (0xCE#8, .absolute), (0xDE#8, .absoluteX)] ∧
  ∀ (i : Instr) (s : State),
    let m := s.operandValue i.mode i.operand
    let ea := s.effectiveAddress i.mode i.operand
    let stored (r : Byte) : Prop :=
      (∃ d, exec i s = .next { s with
        mem := (s.memWrite ea r).mem
        p := { s.p with n := r.msb, z := decide (r = 0#8) }
        pc := s.pc + BitVec.ofNat 16 i.length
        drawIndex := d }) ∧
      ∀ t, exec i s = .next t → s.Writable ea → t.peek ea = r
    (i.mnemonic = .inc → stored (BitVec.ofNat 8 (m.toNat + 1))) ∧
    (i.mnemonic = .dec → stored (BitVec.ofNat 8 (m.toNat + 255)))

/-- R266 to R269: INX, INY, DEX, DEY. -/
def Obligations.IndexIncrementsAndDecrements : Prop :=
  HasForms .inx [(0xE8#8, .implied)] ∧ HasForms .iny [(0xC8#8, .implied)] ∧ HasForms .dex [(0xCA#8, .implied)] ∧ HasForms .dey [(0x88#8, .implied)] ∧
  ∀ s : State,
    let nz (r : Byte) : Status := { s.p with n := r.msb, z := decide (r = 0#8) }
    let up (r : Byte) : Byte := BitVec.ofNat 8 (r.toNat + 1)
    let down (r : Byte) : Byte := BitVec.ofNat 8 (r.toNat + 255)
    exec .inx s = .next { s with x := up s.x, p := nz (up s.x), pc := s.pc + 1#16 } ∧
    exec .iny s = .next { s with y := up s.y, p := nz (up s.y), pc := s.pc + 1#16 } ∧
    exec .dex s = .next { s with x := down s.x, p := nz (down s.x), pc := s.pc + 1#16 } ∧
    exec .dey s = .next { s with y := down s.y, p := nz (down s.y), pc := s.pc + 1#16 }

/-- R270 to R277: the flag instructions and NOP. -/
def Obligations.FlagInstructionsAndNop : Prop :=
  HasForms .clc [(0x18#8, .implied)] ∧ HasForms .sec [(0x38#8, .implied)] ∧ HasForms .cli [(0x58#8, .implied)] ∧ HasForms .sei [(0x78#8, .implied)] ∧
  HasForms .cld [(0xD8#8, .implied)] ∧ HasForms .sed [(0xF8#8, .implied)] ∧ HasForms .clv [(0xB8#8, .implied)] ∧ HasForms .nop [(0xEA#8, .implied)] ∧
  ∀ s : State,
    exec .clc s = .next { s with p := { s.p with c := false }, pc := s.pc + 1#16 } ∧
    exec .sec s = .next { s with p := { s.p with c := true }, pc := s.pc + 1#16 } ∧
    exec .cli s = .next { s with p := { s.p with i := false }, pc := s.pc + 1#16 } ∧
    exec .sei s = .next { s with p := { s.p with i := true }, pc := s.pc + 1#16 } ∧
    exec .cld s = .next { s with p := { s.p with d := false }, pc := s.pc + 1#16 } ∧
    exec .sed s = .next { s with p := { s.p with d := true }, pc := s.pc + 1#16 } ∧
    exec .clv s = .next { s with p := { s.p with v := false }, pc := s.pc + 1#16 } ∧
    exec .nop s = .next { s with pc := s.pc + 1#16 }

/-- R230, R231, R232: the loads. -/
def Obligations.LoadsSetRegisterAndNZ : Prop :=
  HasForms .lda [
      (0xA9#8, .immediate), (0xA5#8, .zeroPage), (0xB5#8, .zeroPageX), (0xAD#8, .absolute),
      (0xBD#8, .absoluteX), (0xB9#8, .absoluteY), (0xA1#8, .indexedIndirectDPX), (0xB1#8, .indirectIndexedDPY)] ∧
  HasForms .ldx [
      (0xA2#8, .immediate), (0xA6#8, .zeroPage), (0xB6#8, .zeroPageY), (0xAE#8, .absolute),
      (0xBE#8, .absoluteY)] ∧
  HasForms .ldy [
      (0xA0#8, .immediate), (0xA4#8, .zeroPage), (0xB4#8, .zeroPageX), (0xAC#8, .absolute),
      (0xBC#8, .absoluteX)] ∧
  ∀ (i : Instr) (s : State),
    let m := s.operandValue i.mode i.operand
    let nz : Status := { s.p with n := m.msb, z := decide (m = 0#8) }
    (i.mnemonic = .lda → ∃ d, exec i s = .next { s with a := m, p := nz, pc := s.pc + BitVec.ofNat 16 i.length, drawIndex := d }) ∧
    (i.mnemonic = .ldx → ∃ d, exec i s = .next { s with x := m, p := nz, pc := s.pc + BitVec.ofNat 16 i.length, drawIndex := d }) ∧
    (i.mnemonic = .ldy → ∃ d, exec i s = .next { s with y := m, p := nz, pc := s.pc + BitVec.ofNat 16 i.length, drawIndex := d })

/-- R233, R234, R235: the stores, and what they leave in Storage. -/
def Obligations.StoresWriteTheRegister : Prop :=
  HasForms .sta [
      (0x85#8, .zeroPage), (0x95#8, .zeroPageX), (0x8D#8, .absolute), (0x9D#8, .absoluteX),
      (0x99#8, .absoluteY), (0x81#8, .indexedIndirectDPX), (0x91#8, .indirectIndexedDPY)] ∧
  HasForms .stx [(0x86#8, .zeroPage), (0x96#8, .zeroPageY), (0x8E#8, .absolute)] ∧ HasForms .sty [(0x84#8, .zeroPage), (0x94#8, .zeroPageX), (0x8C#8, .absolute)] ∧
  ∀ (i : Instr) (s : State),
    let ea := s.effectiveAddress i.mode i.operand
    let stored (r : Byte) : Prop :=
      (∃ d, exec i s = .next { s with mem := (s.memWrite ea r).mem, pc := s.pc + BitVec.ofNat 16 i.length, drawIndex := d }) ∧
      ∀ t, exec i s = .next t →
        (s.Writable ea → ∀ a : Word, translateAddr a s.mode = translateAddr ea s.mode → t.peek a = r) ∧
        ∀ o : Word, o ≠ translateAddr ea s.mode → t.storageRead o = s.storageRead o
    (i.mnemonic = .sta → stored s.a) ∧ (i.mnemonic = .stx → stored s.x) ∧ (i.mnemonic = .sty → stored s.y)

/-- R236 to R241: the register transfers. -/
def Obligations.TransfersCopyRegisters : Prop :=
  HasForms .tax [(0xAA#8, .implied)] ∧ HasForms .tay [(0xA8#8, .implied)] ∧ HasForms .txa [(0x8A#8, .implied)] ∧ HasForms .tya [(0x98#8, .implied)] ∧
  HasForms .tsx [(0xBA#8, .implied)] ∧ HasForms .txs [(0x9A#8, .implied)] ∧
  ∀ s : State,
    let nz (r : Byte) : Status := { s.p with n := r.msb, z := decide (r = 0#8) }
    exec .tax s = .next { s with x := s.a, p := nz s.a, pc := s.pc + 1#16 } ∧
    exec .tay s = .next { s with y := s.a, p := nz s.a, pc := s.pc + 1#16 } ∧
    exec .txa s = .next { s with a := s.x, p := nz s.x, pc := s.pc + 1#16 } ∧
    exec .tya s = .next { s with a := s.y, p := nz s.y, pc := s.pc + 1#16 } ∧
    exec .tsx s = .next { s with x := s.sp, p := nz s.sp, pc := s.pc + 1#16 } ∧
    exec .txs s = .next { s with sp := s.x, pc := s.pc + 1#16 }

/-- R180 to R188: the branches. -/
def Obligations.BranchesAddASignedDisplacement : Prop :=
  HasForms .bcc [(0x90#8, .relative)] ∧ HasForms .bcs [(0xB0#8, .relative)] ∧ HasForms .beq [(0xF0#8, .relative)] ∧
  HasForms .bne [(0xD0#8, .relative)] ∧ HasForms .bmi [(0x30#8, .relative)] ∧ HasForms .bpl [(0x10#8, .relative)] ∧
  HasForms .bvc [(0x50#8, .relative)] ∧ HasForms .bvs [(0x70#8, .relative)] ∧
  ∀ (s : State) (d : Byte),
    let branched (cond : Prop) [Decidable cond] : State := { s with
      pc := BitVec.ofInt 16 ((s.pc.toNat : Int) + 2 + (if cond then d.toInt else 0)) }
    exec (.bcc d) s = .next (branched (s.p.c = false)) ∧ exec (.bcs d) s = .next (branched (s.p.c = true)) ∧
    exec (.beq d) s = .next (branched (s.p.z = true)) ∧ exec (.bne d) s = .next (branched (s.p.z = false)) ∧
    exec (.bmi d) s = .next (branched (s.p.n = true)) ∧ exec (.bpl d) s = .next (branched (s.p.n = false)) ∧
    exec (.bvc d) s = .next (branched (s.p.v = false)) ∧ exec (.bvs d) s = .next (branched (s.p.v = true)) ∧
    (s.p.z = false → exec (.bne 0xFE#8) s = .next s)

/-- R189, R104: JMP and the page-boundary bug. -/
def Obligations.JumpsSetPc : Prop :=
  HasForms .jmp [(0x4C#8, .absolute), (0x6C#8, .indirectAbsolute)] ∧
  (∀ (s : State) (addr : Word), exec (.jmpAbsolute addr) s = .next { s with pc := addr }) ∧
  ∀ (s : State) (ptr : Word),
    (∃ d, exec (.jmpIndirectAbsolute ptr) s =
      .next { s with pc := s.effectiveAddress .indirectAbsolute ptr, drawIndex := d }) ∧
    let hi : Word := if ptr.toNat % 256 = 255 then ptr - 255#16 else ptr + 1#16
    let outside (a : Word) : Prop := a.toNat < 0x2000 ∨ 0x401F < a.toNat
    s.resolve .indirectAbsolute ptr =
      (wordOf (s.memRead ptr).1 ((s.memRead ptr).2.memRead hi).1, ((s.memRead ptr).2.memRead hi).2) ∧
    (s.params.ioModel = .storage ∨ (outside ptr ∧ outside hi) →
      s.resolve .indirectAbsolute ptr = (s.effectiveAddress .indirectAbsolute ptr, s) ∧
      (s.effectiveAddress .indirectAbsolute ptr).toNat = (s.peek ptr).toNat + 256 * (s.peek hi).toNat)

/-- R190: JSR. -/
def Obligations.JsrPushesTheLastByteAddress : Prop :=
  HasForms .jsr [(0x20#8, .absolute)] ∧
  ∀ (s : State) (addr : Word), ∃ t, exec (.jsr addr) s = .next t ∧
    t = { s with mem := t.mem, sp := s.sp - 2#8, pc := addr } ∧
    (s.storageReady = true → ∀ o : Word, t.storageRead o =
      if o = stackAddr s.sp then hiByte (s.pc + 2#16)
      else if o = stackAddr (s.sp - 1#8) then loByte (s.pc + 2#16)
      else s.storageRead o)

/-- R191: RTS. -/
def Obligations.RtsPullsAndAddsOne : Prop :=
  HasForms .rts [(0x60#8, .implied)] ∧
  ∀ s : State, exec .rts s = .next { s with
    sp := s.sp + 2#8
    pc := BitVec.ofNat 16 ((s.storageRead (stackAddr (s.sp + 1#8))).toNat +
      256 * (s.storageRead (stackAddr (s.sp + 2#8))).toNat + 1) }

/-- The stack pairs undo each other (43_control_flow.md section 2, 44_stack.md). -/
def Obligations.StackRoundTrips : Prop :=
  ∀ s : State, s.storageReady = true →
    (∀ addr t u, exec (.jsr addr) s = .next t → exec .rts t = .next u → u.pc = s.pc + 3#16 ∧ u.sp = s.sp) ∧
    (∀ t u, exec .php s = .next t → exec .plp t = .next u → u.p = s.p ∧ u.sp = s.sp) ∧
    (∀ t u, exec .pha s = .next t → exec .pla t = .next u → u.a = s.a ∧ u.sp = s.sp)

/-- R210, R211: PHA and PHP. -/
def Obligations.StackPushesOfAAndP : Prop :=
  HasForms .pha [(0x48#8, .implied)] ∧ HasForms .php [(0x08#8, .implied)] ∧
  ∀ s : State,
    let pushed (i : Instr) (v : Byte) : Prop := ∃ t, exec i s = .next t ∧
      t = { s with mem := t.mem, sp := s.sp - 1#8, pc := s.pc + 1#16 } ∧
      (s.storageReady = true → ∀ o : Word, t.storageRead o = if o = stackAddr s.sp then v else s.storageRead o)
    pushed .pha s.a ∧ pushed .php (s.p.toByte ||| 0x10#8)

/-- R212, R213: PLA and PLP. -/
def Obligations.StackPullsOfAAndP : Prop :=
  HasForms .pla [(0x68#8, .implied)] ∧ HasForms .plp [(0x28#8, .implied)] ∧
  ∀ s : State,
    let q := s.storageRead (stackAddr (s.sp + 1#8))
    exec .pla s = .next { s with a := q, sp := s.sp + 1#8, p := { s.p with n := q.msb, z := decide (q = 0#8) }, pc := s.pc + 1#16 } ∧
    ∃ p : Status, exec .plp s = .next { s with sp := s.sp + 1#8, p := p, pc := s.pc + 1#16 } ∧
      p.toByte = (s.p.toByte &&& 0x30#8) ||| (q &&& 0xCF#8) ∧
      p = { n := q.getLsbD 7, v := q.getLsbD 6, u := s.p.u, b := s.p.b, d := q.getLsbD 3, i := q.getLsbD 2, z := q.getLsbD 1, c := q.getLsbD 0 }

/-- R192, R311: BRK at every value of its two parameters. -/
def Obligations.BrkEntersTheTrap : Prop :=
  HasForms .brk [(0x00#8, .implied)] ∧ Params.default.brkReturnOffset = 2#16 ∧ Params.default.brkPushOrder = .document ∧
  ∀ s : State,
    let ret := s.pc + s.params.brkReturnOffset
    let pushed : Byte := if s.params.brkPushOrder = .document then Status.toByte { s.p with b := true, i := true }
      else s.p.toByte ||| 0x10#8
    ∃ t, exec .brk s = .next t ∧
    t = { s with
      mem := t.mem
      sp := s.sp - 3#8
      p := { s.p with b := true, i := true }
      pc := wordOf (s.peek 0xFFFE#16) (s.peek 0xFFFF#16) } ∧
    (s.storageReady = true → ∀ o : Word, t.storageRead o =
      if o = stackAddr s.sp then hiByte ret
      else if o = stackAddr (s.sp - 1#8) then loByte ret
      else if o = stackAddr (s.sp - 2#8) then pushed
      else s.storageRead o)

/-- R194: RTI. -/
def Obligations.RtiRestoresFlagsAndPc : Prop :=
  HasForms .rti [(0x40#8, .implied)] ∧
  ∀ s : State,
    let q := s.storageRead (stackAddr (s.sp + 1#8))
    exec .rti s = .next { s with
      sp := s.sp + 3#8
      p := { n := q.getLsbD 7, v := q.getLsbD 6, u := s.p.u, b := s.p.b, d := q.getLsbD 3, i := q.getLsbD 2, z := q.getLsbD 1, c := q.getLsbD 0 }
      pc := BitVec.ofNat 16 ((s.storageRead (stackAddr (s.sp + 2#8))).toNat +
        256 * (s.storageRead (stackAddr (s.sp + 3#8))).toNat) }

/-- The return from a BRK handler (43_control_flow.md section 2, 60_exceptions.md section 3): t is the state BRK leaves, r the state at the RTI. -/
def Obligations.BrkThenRtiReturns : Prop :=
  ∀ s t r u : State, s.storageReady = true → exec .brk s = .next t → r.storageReady = true → r.sp = t.sp →
    (∀ k : Byte, k = 1#8 ∨ k = 2#8 ∨ k = 3#8 →
      r.storageRead (stackAddr (t.sp + k)) = t.storageRead (stackAddr (t.sp + k))) →
    exec .rti r = .next u →
      u.pc = s.pc + s.params.brkReturnOffset ∧ u.sp = s.sp ∧
      u.p = { s.p with
        b := r.p.b
        u := r.p.u
        i := if s.params.brkPushOrder = .document then true else s.p.i }

/-- R310: interrupt entry, and the step that takes it. -/
def Obligations.InterruptEntryPushesTheFrame : Prop :=
  (∀ (s : State) (src : Interrupt),
    let ret := s.pc
    let pushed : Byte := s.p.toByte &&& 0xEF#8
    let vector : Word := if src = .nmi then 0xFFFA#16 else 0xFFFE#16
    let t := s.enterInterrupt src
    t = { s with
      mem := t.mem
      sp := s.sp - 3#8
      p := { s.p with i := true }
      pc := wordOf (s.peek vector) (s.peek (vector + 1#16))
      nmiPending := if src = .nmi then false else s.nmiPending } ∧
    (s.storageReady = true → ∀ o : Word, t.storageRead o =
      if o = stackAddr s.sp then hiByte ret
      else if o = stackAddr (s.sp - 1#8) then loByte ret
      else if o = stackAddr (s.sp - 2#8) then pushed
      else s.storageRead o)) ∧
  ∀ (s : State) (src : Interrupt), s.engine = .running → s.sampleInputs.interruptDue = some src →
    step s = .next (s.sampleInputs.enterInterrupt src)

/-- R306, R308, R309: when an interrupt is due, its priority, and that a step takes it before the fetch. That sampling is driveInputs of some levels with drawIndex + 1, once per step, is the model's choice (log entries 5, 6 and 21). -/
def Obligations.InterruptPriority : Prop :=
  (∀ s : State,
    (s.params.interruptsConnected = false → s.sampleInputs = s ∧ s.interruptDue = none) ∧
    (s.params.interruptsConnected = true →
      (s.interruptDue = some .nmi ↔ s.nmiPending = true) ∧
      (s.interruptDue = some .irq ↔ s.nmiPending = false ∧ s.irqLine = true ∧ s.p.i = false) ∧
      ∃ nmi irq, s.sampleInputs = { s.driveInputs nmi irq with drawIndex := s.drawIndex + 1 })) ∧
  ∀ s : State,
    (∀ src, s.engine = .running → s.sampleInputs.interruptDue = some src →
      step s = .next (s.sampleInputs.enterInterrupt src)) ∧
    (∀ i, s.engine = .running → s.sampleInputs.interruptDue = none → decode s.sampleInputs.fetch.1 = .ok i →
      step s = exec i s.sampleInputs.fetch.2) ∧
    (s.engine ≠ .running → ∀ t, step s ≠ .next t)

/-- R307: the NMI latch. -/
def Obligations.NmiIsLatched : Prop :=
  (∀ (s : State) (nmi irq : Bool), s.params.interruptsConnected = true →
    s.driveInputs nmi irq = { s with
      nmiPending := s.nmiPending || (!s.nmiLine && nmi)
      nmiLine := nmi
      irqLine := irq } ∧
    (s.nmiPending = true → s.interruptDue = some .nmi)) ∧
  (∀ (i : Instr) (s t : State), exec i s = .next t → t.nmiPending = s.nmiPending) ∧
  ∀ s : State,
    (s.enterInterrupt .irq).nmiPending = s.nmiPending ∧ (s.enterInterrupt .nmi).nmiPending = false ∧
    (∀ m, (s.powerOn m).nmiPending = false) ∧ (∀ t, s.hostReset = .ok t → t.nmiPending = false)

/-- The step (40_engine.md section 1). -/
def Obligations.StepRunsTheDecodedInstruction : Prop :=
  (∀ (s : State) (i : Instr), s.engine = .running → s.sampleInputs.interruptDue = none →
    decode s.sampleInputs.fetch.1 = .ok i → step s = exec i s.sampleInputs.fetch.2) ∧
  ∀ (s : State) (i : Instr), s.engine = .running → s.params.ioModel = .storage →
    s.params.interruptsConnected = false →
    decode [s.peek s.pc, s.peek (s.pc + 1#16), s.peek (s.pc + 2#16)] = .ok i → step s = exec i s

/-- R119, R302: UnknownOpcode, the only error an executing program can cause. -/
def Obligations.UnknownOpcodeHalts : Prop :=
  (∀ s : State, s.engine = .running → s.sampleInputs.interruptDue = none →
    dispatch (s.sampleInputs.memRead s.sampleInputs.pc).1 = none →
    ∃ d, step s = .fault (.halted .unknownOpcode
      { s.sampleInputs with engine := .halted .unknownOpcode, drawIndex := d })) ∧
  (∀ s : State, s.engine = .running → s.params.interruptsConnected = false → s.params.ioModel = .storage →
    dispatch (s.peek s.pc) = none →
    step s = .fault (.halted .unknownOpcode { s with engine := .halted .unknownOpcode })) ∧
  ∀ (s : State) (f : Fault), s.engine = .running → step s = .fault f →
    dispatch (s.sampleInputs.memRead s.sampleInputs.pc).1 = none ∧ ∃ t, f = .halted .unknownOpcode t

/-- R120, R304: steps outside Running. -/
def Obligations.StoppedEngineDoesNothing : Prop :=
  ∀ s : State,
    (s.engine = .unpowered → step s = .fault .notPoweredOn ∧ s.afterStep = s ∧ s.hostReset = .error .notPoweredOn) ∧
    ∀ k, s.engine = .halted k → step s = .fault (.halted k s) ∧ s.afterStep = s

/-- R101: fetch, and that TruncatedBuffer never arises from a step. -/
def Obligations.FetchAlwaysSuppliesThreeBytes : Prop :=
  ∀ s : State,
    let a1 : Word := BitVec.ofNat 16 (s.pc.toNat + 1)
    let a2 : Word := BitVec.ofNat 16 (s.pc.toNat + 2)
    let outside (a : Word) : Prop := a.toNat < 0x2000 ∨ 0x401F < a.toNat
    (∃ r0 r1 r2, r0 = s.memRead s.pc ∧ r1 = r0.2.memRead a1 ∧ r2 = r1.2.memRead a2 ∧
      s.fetch = ([r0.1, r1.1, r2.1], r2.2)) ∧
    s.fetch.1.length = 3 ∧ (∃ d, s.fetch.2 = { s with drawIndex := d }) ∧
    (s.params.ioModel = .storage ∨ (outside s.pc ∧ outside a1 ∧ outside a2) →
      s.fetch = ([s.peek s.pc, s.peek a1, s.peek a2], s)) ∧
    decode s.fetch.1 ≠ .error .truncatedBuffer ∧
    (s.engine = .running → ∀ t, step s ≠ .fault (.halted .truncatedBuffer t))

/-- The invariant is kept by every step, from every state that meets it. -/
def Obligations.StepKeepsTheInvariant : Prop :=
  ∀ s : State, s.Inv →
    (∀ t, step s = .next t → t.Inv) ∧ (∀ k t, step s = .fault (.halted k t) → t.Inv)

/-- The state after reset: the values of 10_state.md section 5 (MemoryMode NROM256 is log entry 1), and the invariant. -/
def Obligations.ResetStateMeetsTheInvariant : Prop :=
  State.reset.Inv ∧ State.reset = State.unpowered.powerOn .nrom256 ∧
  State.reset.a = 0x00#8 ∧ State.reset.x = 0x00#8 ∧ State.reset.y = 0x00#8 ∧ State.reset.sp = 0xFD#8 ∧
  State.reset.p.toByte = 0x34#8 ∧ State.reset.engine = .running ∧
  State.reset.pc = wordOf (State.reset.peek 0xFFFC#16) (State.reset.peek 0xFFFD#16)

/-- The host's operations between steps keep the invariant (60_exceptions.md section 4). -/
def Obligations.HostOperationsKeepTheInvariant : Prop :=
  ∀ s : State, s.Inv →
    s.storagePowerOn.Inv ∧ (∀ m, (s.powerOn m).Inv) ∧ (∀ t, s.hostReset = .ok t → t.Inv) ∧
    (∀ o bytes t, s.storageLoad o bytes = .next t → t.Inv) ∧ (∀ n prg t, s.boot n prg = .next t → t.Inv) ∧
    (∀ a, (s.mtuRead a).2.Inv) ∧ (∀ a v, (s.mtuWrite a v).Inv) ∧ (∀ m q, (s.driveInputs m q).Inv)

/-- Whole-machine rules of 10_state.md sections 2 and 3, over all instructions and interrupt entry. -/
def Obligations.StepKeepsConfigurationAndStickyFlags : Prop :=
  ∀ s t : State, step s = .next t →
    s.engine = .running ∧ t.engine = .running ∧ t.mode = s.mode ∧ t.params = s.params ∧
    t.storageReady = s.storageReady ∧ t.p.u = s.p.u ∧ (s.p.b = true → t.p.b = true) ∧
    (s.p.toByte &&& 0x30#8 = 0x30#8 → t.p.toByte &&& 0x30#8 = 0x30#8)

/-- No instruction stops (60_exceptions.md section 4, 41_arithmetic_compare.md). -/
def Obligations.EveryInstructionCompletes : Prop :=
  ∀ (i : Instr) (s : State), ∃ t, exec i s = .next t ∧ t.engine = s.engine ∧ t.mode = s.mode ∧ t.params = s.params ∧
    t.nmiPending = s.nmiPending ∧ t.nmiLine = s.nmiLine ∧ t.irqLine = s.irqLine

/-- The memory frame of all 151 instructions; storesTo computes the addresses with the functions the meanings use. -/
def Obligations.MemoryFrameOfEveryInstruction : Prop :=
  ∀ (i : Instr) (s t : State), exec i s = .next t →
    (∀ o : Word, (∀ a ∈ storesTo i s, translateAddr a s.mode ≠ o) → t.storageRead o = s.storageRead o) ∧
    (∀ b : Word, (∀ a ∈ storesTo i s, translateAddr a s.mode ≠ translateAddr b s.mode) → t.peek b = s.peek b)

/-- D is read only by pushes of P (10_state.md section 2): no arithmetic depends on it. -/
def Obligations.DecimalFlagIsOnlyPushed : Prop :=
  ∀ (i : Instr) (s : State) (f : Bool), i.mnemonic ≠ .php → i.mnemonic ≠ .brk →
    ∃ t u, exec i s = .next t ∧ exec i { s with p := { s.p with d := f } } = .next u ∧
      { u with p := { u.p with d := false } } = { t with p := { t.p with d := false } }

/-- Determinism in the spec's own state (40_engine.md section 5). -/
def Obligations.StepIgnoresTheDrawCounter : Prop :=
  ∀ (s : State) (k : Nat), s.params.ioModel = .storage → s.params.interruptsConnected = false →
    step { s with drawIndex := k } = mapOutcome (fun t => { t with drawIndex := k }) (step s)

/-- R331: the power-on sequence. -/
def Obligations.PowerOnSequence : Prop :=
  Params.default.pPowerOn = 0x34#8 ∧
  ∀ (s : State) (m : MemoryMode),
    let t := s.powerOn m
    s.powerOnResult m = .ok t ∧
    t = { s with
      a := 0x00#8
      x := 0x00#8
      y := 0x00#8
      sp := 0xFD#8
      pc := wordOf (t.peek 0xFFFC#16) (t.peek 0xFFFD#16)
      p := t.p
      engine := .running
      mode := m
      nmiPending := false
      storageReady := true
      mem := t.mem } ∧
    t.p.toByte = s.params.pPowerOn ∧
    ∀ o : Word, t.storageRead o = if o = 0x4015#16 ∨ o = 0x4017#16 then 0#8 else s.storageRead o

/-- R333, R334, R335: reset. -/
def Obligations.ResetSequence : Prop :=
  Params.default.resetLoadsPc = true ∧
  ∀ s : State,
    (s.engine = .unpowered → s.hostReset = .error .notPoweredOn) ∧
    (s.engine ≠ .unpowered → ∃ t, s.hostReset = .ok t ∧
      t = { s with
        sp := s.sp - 3#8
        p := { s.p with i := true }
        pc := if s.params.resetLoadsPc then wordOf (s.peek 0xFFFC#16) (s.peek 0xFFFD#16) else s.pc
        engine := .running
        nmiPending := false
        mem := t.mem } ∧
      ∀ o : Word, t.storageRead o = if o = 0x4015#16 then 0#8 else s.storageRead o)

/-- R42: there is no register file in Unpowered, and power-on writes all of it. -/
def Obligations.ObservationNeedsAPoweredEngine : Prop :=
  (∀ s : State,
    (s.engine = .unpowered → s.observe = .error .registerFileAbsent) ∧
    (s.engine ≠ .unpowered → s.observe = .ok ⟨s.a, s.x, s.y, s.sp, s.pc, s.p⟩)) ∧
  ∀ (s : State) (m : MemoryMode) (a x y sp : Byte) (pc : Word) (p : Status),
    State.observe (({ s with a := a, x := x, y := y, sp := sp, pc := pc, p := p } : State).powerOn m) =
      (s.powerOn m).observe

/-- R125: run(n). A path of states is the loop of step() calls. -/
def Obligations.RunStopsAtHaltedOrTheBound : Prop :=
  ∀ (s : State) (n : Nat),
    (∀ t, s.run n = .next t ↔
      ∃ path : Nat → State, path 0 = s ∧ path n = t ∧ ∀ k < n, step (path k) = .next (path (k + 1))) ∧
    (∀ f, s.run n = .fault f ↔ ∃ k u, k < n ∧ s.run k = .next u ∧ step u = .fault f) ∧
    (∀ r, s.run n ≠ .refused r) ∧
    (s.engine = .running → ∀ f, s.run n = .fault f → ∃ t, f = .halted .unknownOpcode t ∧ s.afterRun n = t) ∧
    ∀ t, s.run n = .next t → s.afterRun n = t
end

