-- ==== Sys2Proof/Laws/Memory.lean ====
section
/-! SUPPORT. The laws of the byte list behind Storage: reading after setting, and the canonical form. -/

namespace Sys2Proof.Machine

variable {m : Memory} {j k : Nat} {v : Byte}

@[simp] theorem Memory.get_nil (k : Nat) : Memory.get [] k = 0#8 := rfl

theorem Memory.get_cons (k' : Nat) (v' : Byte) (m : Memory) (k : Nat) :
    Memory.get ((k', v') :: m) k = if k' = k then v' else Memory.get m k := rfl

theorem Memory.drop_cons (k' : Nat) (v' : Byte) (m : Memory) (k : Nat) :
    Memory.drop ((k', v') :: m) k = if k' = k then Memory.drop m k else (k', v') :: Memory.drop m k := by
  by_cases h : k' = k <;> simp [Memory.drop, h]

theorem Memory.get_drop_same (m : Memory) (k : Nat) : Memory.get (Memory.drop m k) k = 0#8 := by
  induction m with
  | nil => rfl
  | cons c m ih =>
    obtain ⟨k', v'⟩ := c
    rw [Memory.drop_cons]
    split
    · exact ih
    · rw [Memory.get_cons, if_neg ‹_›, ih]

theorem Memory.get_drop_other (m : Memory) (h : j ≠ k) : Memory.get (Memory.drop m k) j = Memory.get m j := by
  induction m with
  | nil => rfl
  | cons c m ih =>
    obtain ⟨k', v'⟩ := c
    rw [Memory.drop_cons, Memory.get_cons]
    split
    · subst k'; rw [if_neg (Ne.symm h), ih]
    · rw [Memory.get_cons, ih]

theorem Memory.get_insert (m : Memory) (v : Byte) (hm : Memory.get m k = 0#8) (hk : Memory.drop m k = m) (j : Nat) :
    Memory.get (Memory.insert m k v) j = if k = j then v else Memory.get m j := by
  induction m with
  | nil => rfl
  | cons c m ih =>
    obtain ⟨k', v'⟩ := c
    rw [Memory.drop_cons] at hk
    by_cases hkk : k' = k
    · rw [if_pos hkk] at hk
      have : (Memory.drop m k).length = m.length + 1 := by rw [hk]; rfl
      have := List.length_filter_le (fun c : Host.Cell => c.1 != k) m
      simp only [Memory.drop] at *
      omega
    · rw [if_neg hkk] at hk
      rw [Memory.get_cons, if_neg hkk] at hm
      rw [Memory.insert]
      split
      · rfl
      · rw [Memory.get_cons, ih hm (List.cons.inj hk).2, Memory.get_cons]
        by_cases hj : k = j
        · subst j; simp [hkk]
        · simp [hj]

theorem Memory.drop_drop (m : Memory) (k : Nat) : Memory.drop (Memory.drop m k) k = Memory.drop m k := by
  simp [Memory.drop, List.filter_filter]

/-- Everything a set does to the bytes read: the byte set, and no other. -/
theorem Memory.get_set (m : Memory) (k : Nat) (v : Byte) (j : Nat) :
    Memory.get (Memory.set m k v) j = if k = j then v else Memory.get m j := by
  rw [Memory.set]
  by_cases hv : v = 0#8
  · rw [if_pos hv]
    by_cases hj : k = j
    · subst j; rw [Memory.get_drop_same, if_pos rfl, hv]
    · rw [Memory.get_drop_other _ (Ne.symm hj), if_neg hj]
  · rw [if_neg hv, Memory.get_insert _ _ (Memory.get_drop_same m k) (Memory.drop_drop m k)]
    by_cases hj : k = j
    · simp [hj]
    · rw [if_neg hj, if_neg hj, Memory.get_drop_other _ (Ne.symm hj)]

/-! ### The canonical form -/

theorem Memory.above_drop (h : Memory.above j m = true) : Memory.above j (Memory.drop m k) = true := by
  simp only [Memory.above, Memory.drop, List.all_eq_true, List.mem_filter] at *
  exact fun c hc => h c hc.1

theorem Memory.above_insert (h : Memory.above j m = true) (hk : j < k) :
    Memory.above j (Memory.insert m k v) = true := by
  induction m with
  | nil => simp [Memory.insert, Memory.above, hk]
  | cons c m ih =>
    obtain ⟨k', v'⟩ := c
    simp only [Memory.above, List.all_cons, Bool.and_eq_true] at h ih
    rw [Memory.insert]
    split
    · simp [Memory.above, hk, h.1, h.2] at *
    · simp only [Memory.above, List.all_cons, Bool.and_eq_true]
      exact ⟨h.1, ih h.2⟩

theorem Memory.above_trans (h : Memory.above j m = true) (hk : k < j) : Memory.above k m = true := by
  simp only [Memory.above, List.all_eq_true, decide_eq_true_eq] at *
  exact fun c hc => Nat.lt_trans hk (h c hc)

theorem Memory.wf_cons (k : Nat) (v : Byte) (m : Memory) :
    Memory.wf ((k, v) :: m) = true ↔ k < 65536 ∧ v ≠ 0#8 ∧ Memory.above k m = true ∧ Memory.wf m = true := by
  simp [Memory.wf, and_assoc]

theorem Memory.wf_drop (h : Memory.wf m = true) (k : Nat) : Memory.wf (Memory.drop m k) = true := by
  induction m with
  | nil => rfl
  | cons c m ih =>
    obtain ⟨k', v'⟩ := c
    rw [Memory.wf_cons] at h
    rw [Memory.drop_cons]
    split
    · exact ih h.2.2.2
    · rw [Memory.wf_cons]
      exact ⟨h.1, h.2.1, Memory.above_drop h.2.2.1, ih h.2.2.2⟩

theorem Memory.wf_insert (h : Memory.wf m = true) (hk : k < 65536) (hv : v ≠ 0#8) (hd : ∀ c ∈ m, c.1 ≠ k) :
    Memory.wf (Memory.insert m k v) = true := by
  induction m with
  | nil => simp [Memory.insert, Memory.wf, Memory.above, hk, hv]
  | cons c m ih =>
    obtain ⟨k', v'⟩ := c
    have hh := h
    rw [Memory.wf_cons] at h
    rw [Memory.insert]
    split
    · rename_i hlt
      rw [Memory.wf_cons]
      refine ⟨hk, hv, ?_, hh⟩
      have := Memory.above_trans h.2.2.1 hlt
      simp only [Memory.above, List.all_cons, Bool.and_eq_true, decide_eq_true_eq] at *
      exact ⟨hlt, this⟩
    · rename_i hge
      have hne : k' ≠ k := hd (k', v') (by simp)
      rw [Memory.wf_cons]
      exact ⟨h.1, h.2.1, Memory.above_insert h.2.2.1 (by omega),
        ih h.2.2.2 (fun c hc => hd c (List.mem_cons_of_mem _ hc))⟩

/-- Every set of a byte at a 16-bit offset keeps the canonical form. -/
theorem Memory.wf_set (h : Memory.wf m = true) (hk : k < 65536) (v : Byte) : Memory.wf (Memory.set m k v) = true := by
  rw [Memory.set]
  split
  · exact Memory.wf_drop h k
  · refine Memory.wf_insert (Memory.wf_drop h k) hk ‹_› (fun c hc => ?_)
    simp only [Memory.drop, List.mem_filter, bne_iff_ne] at hc
    exact hc.2

end Sys2Proof.Machine
end

