-- ==== Sys2Proof/Laws/State.lean ====
section
/-! SUPPORT. One lemma per field per update of State, so that no proof unfolds a record update. -/

namespace Sys2Proof.Machine

open Sys2Proof.Config

variable (s : State)

@[simp] theorem State.setA_a (v : Byte) : (s.setA v).a = v := rfl
@[simp] theorem State.setA_x (v : Byte) : (s.setA v).x = s.x := rfl
@[simp] theorem State.setA_y (v : Byte) : (s.setA v).y = s.y := rfl
@[simp] theorem State.setA_sp (v : Byte) : (s.setA v).sp = s.sp := rfl
@[simp] theorem State.setA_pc (v : Byte) : (s.setA v).pc = s.pc := rfl
@[simp] theorem State.setA_p (v : Byte) : (s.setA v).p = s.p := rfl
@[simp] theorem State.setA_engine (v : Byte) : (s.setA v).engine = s.engine := rfl
@[simp] theorem State.setA_mode (v : Byte) : (s.setA v).mode = s.mode := rfl
@[simp] theorem State.setA_nmiPending (v : Byte) : (s.setA v).nmiPending = s.nmiPending := rfl
@[simp] theorem State.setA_nmiLine (v : Byte) : (s.setA v).nmiLine = s.nmiLine := rfl
@[simp] theorem State.setA_irqLine (v : Byte) : (s.setA v).irqLine = s.irqLine := rfl
@[simp] theorem State.setA_storageReady (v : Byte) : (s.setA v).storageReady = s.storageReady := rfl
@[simp] theorem State.setA_mem (v : Byte) : (s.setA v).mem = s.mem := rfl
@[simp] theorem State.setA_params (v : Byte) : (s.setA v).params = s.params := rfl
@[simp] theorem State.setA_drawIndex (v : Byte) : (s.setA v).drawIndex = s.drawIndex := rfl

@[simp] theorem State.setX_a (v : Byte) : (s.setX v).a = s.a := rfl
@[simp] theorem State.setX_x (v : Byte) : (s.setX v).x = v := rfl
@[simp] theorem State.setX_y (v : Byte) : (s.setX v).y = s.y := rfl
@[simp] theorem State.setX_sp (v : Byte) : (s.setX v).sp = s.sp := rfl
@[simp] theorem State.setX_pc (v : Byte) : (s.setX v).pc = s.pc := rfl
@[simp] theorem State.setX_p (v : Byte) : (s.setX v).p = s.p := rfl
@[simp] theorem State.setX_engine (v : Byte) : (s.setX v).engine = s.engine := rfl
@[simp] theorem State.setX_mode (v : Byte) : (s.setX v).mode = s.mode := rfl
@[simp] theorem State.setX_nmiPending (v : Byte) : (s.setX v).nmiPending = s.nmiPending := rfl
@[simp] theorem State.setX_nmiLine (v : Byte) : (s.setX v).nmiLine = s.nmiLine := rfl
@[simp] theorem State.setX_irqLine (v : Byte) : (s.setX v).irqLine = s.irqLine := rfl
@[simp] theorem State.setX_storageReady (v : Byte) : (s.setX v).storageReady = s.storageReady := rfl
@[simp] theorem State.setX_mem (v : Byte) : (s.setX v).mem = s.mem := rfl
@[simp] theorem State.setX_params (v : Byte) : (s.setX v).params = s.params := rfl
@[simp] theorem State.setX_drawIndex (v : Byte) : (s.setX v).drawIndex = s.drawIndex := rfl

@[simp] theorem State.setY_a (v : Byte) : (s.setY v).a = s.a := rfl
@[simp] theorem State.setY_x (v : Byte) : (s.setY v).x = s.x := rfl
@[simp] theorem State.setY_y (v : Byte) : (s.setY v).y = v := rfl
@[simp] theorem State.setY_sp (v : Byte) : (s.setY v).sp = s.sp := rfl
@[simp] theorem State.setY_pc (v : Byte) : (s.setY v).pc = s.pc := rfl
@[simp] theorem State.setY_p (v : Byte) : (s.setY v).p = s.p := rfl
@[simp] theorem State.setY_engine (v : Byte) : (s.setY v).engine = s.engine := rfl
@[simp] theorem State.setY_mode (v : Byte) : (s.setY v).mode = s.mode := rfl
@[simp] theorem State.setY_nmiPending (v : Byte) : (s.setY v).nmiPending = s.nmiPending := rfl
@[simp] theorem State.setY_nmiLine (v : Byte) : (s.setY v).nmiLine = s.nmiLine := rfl
@[simp] theorem State.setY_irqLine (v : Byte) : (s.setY v).irqLine = s.irqLine := rfl
@[simp] theorem State.setY_storageReady (v : Byte) : (s.setY v).storageReady = s.storageReady := rfl
@[simp] theorem State.setY_mem (v : Byte) : (s.setY v).mem = s.mem := rfl
@[simp] theorem State.setY_params (v : Byte) : (s.setY v).params = s.params := rfl
@[simp] theorem State.setY_drawIndex (v : Byte) : (s.setY v).drawIndex = s.drawIndex := rfl

@[simp] theorem State.setSp_a (v : Byte) : (s.setSp v).a = s.a := rfl
@[simp] theorem State.setSp_x (v : Byte) : (s.setSp v).x = s.x := rfl
@[simp] theorem State.setSp_y (v : Byte) : (s.setSp v).y = s.y := rfl
@[simp] theorem State.setSp_sp (v : Byte) : (s.setSp v).sp = v := rfl
@[simp] theorem State.setSp_pc (v : Byte) : (s.setSp v).pc = s.pc := rfl
@[simp] theorem State.setSp_p (v : Byte) : (s.setSp v).p = s.p := rfl
@[simp] theorem State.setSp_engine (v : Byte) : (s.setSp v).engine = s.engine := rfl
@[simp] theorem State.setSp_mode (v : Byte) : (s.setSp v).mode = s.mode := rfl
@[simp] theorem State.setSp_nmiPending (v : Byte) : (s.setSp v).nmiPending = s.nmiPending := rfl
@[simp] theorem State.setSp_nmiLine (v : Byte) : (s.setSp v).nmiLine = s.nmiLine := rfl
@[simp] theorem State.setSp_irqLine (v : Byte) : (s.setSp v).irqLine = s.irqLine := rfl
@[simp] theorem State.setSp_storageReady (v : Byte) : (s.setSp v).storageReady = s.storageReady := rfl
@[simp] theorem State.setSp_mem (v : Byte) : (s.setSp v).mem = s.mem := rfl
@[simp] theorem State.setSp_params (v : Byte) : (s.setSp v).params = s.params := rfl
@[simp] theorem State.setSp_drawIndex (v : Byte) : (s.setSp v).drawIndex = s.drawIndex := rfl

@[simp] theorem State.setPc_a (v : Word) : (s.setPc v).a = s.a := rfl
@[simp] theorem State.setPc_x (v : Word) : (s.setPc v).x = s.x := rfl
@[simp] theorem State.setPc_y (v : Word) : (s.setPc v).y = s.y := rfl
@[simp] theorem State.setPc_sp (v : Word) : (s.setPc v).sp = s.sp := rfl
@[simp] theorem State.setPc_pc (v : Word) : (s.setPc v).pc = v := rfl
@[simp] theorem State.setPc_p (v : Word) : (s.setPc v).p = s.p := rfl
@[simp] theorem State.setPc_engine (v : Word) : (s.setPc v).engine = s.engine := rfl
@[simp] theorem State.setPc_mode (v : Word) : (s.setPc v).mode = s.mode := rfl
@[simp] theorem State.setPc_nmiPending (v : Word) : (s.setPc v).nmiPending = s.nmiPending := rfl
@[simp] theorem State.setPc_nmiLine (v : Word) : (s.setPc v).nmiLine = s.nmiLine := rfl
@[simp] theorem State.setPc_irqLine (v : Word) : (s.setPc v).irqLine = s.irqLine := rfl
@[simp] theorem State.setPc_storageReady (v : Word) : (s.setPc v).storageReady = s.storageReady := rfl
@[simp] theorem State.setPc_mem (v : Word) : (s.setPc v).mem = s.mem := rfl
@[simp] theorem State.setPc_params (v : Word) : (s.setPc v).params = s.params := rfl
@[simp] theorem State.setPc_drawIndex (v : Word) : (s.setPc v).drawIndex = s.drawIndex := rfl

@[simp] theorem State.setP_a (v : Status) : (s.setP v).a = s.a := rfl
@[simp] theorem State.setP_x (v : Status) : (s.setP v).x = s.x := rfl
@[simp] theorem State.setP_y (v : Status) : (s.setP v).y = s.y := rfl
@[simp] theorem State.setP_sp (v : Status) : (s.setP v).sp = s.sp := rfl
@[simp] theorem State.setP_pc (v : Status) : (s.setP v).pc = s.pc := rfl
@[simp] theorem State.setP_p (v : Status) : (s.setP v).p = v := rfl
@[simp] theorem State.setP_engine (v : Status) : (s.setP v).engine = s.engine := rfl
@[simp] theorem State.setP_mode (v : Status) : (s.setP v).mode = s.mode := rfl
@[simp] theorem State.setP_nmiPending (v : Status) : (s.setP v).nmiPending = s.nmiPending := rfl
@[simp] theorem State.setP_nmiLine (v : Status) : (s.setP v).nmiLine = s.nmiLine := rfl
@[simp] theorem State.setP_irqLine (v : Status) : (s.setP v).irqLine = s.irqLine := rfl
@[simp] theorem State.setP_storageReady (v : Status) : (s.setP v).storageReady = s.storageReady := rfl
@[simp] theorem State.setP_mem (v : Status) : (s.setP v).mem = s.mem := rfl
@[simp] theorem State.setP_params (v : Status) : (s.setP v).params = s.params := rfl
@[simp] theorem State.setP_drawIndex (v : Status) : (s.setP v).drawIndex = s.drawIndex := rfl

@[simp] theorem State.setEngine_a (v : EngineState) : (s.setEngine v).a = s.a := rfl
@[simp] theorem State.setEngine_x (v : EngineState) : (s.setEngine v).x = s.x := rfl
@[simp] theorem State.setEngine_y (v : EngineState) : (s.setEngine v).y = s.y := rfl
@[simp] theorem State.setEngine_sp (v : EngineState) : (s.setEngine v).sp = s.sp := rfl
@[simp] theorem State.setEngine_pc (v : EngineState) : (s.setEngine v).pc = s.pc := rfl
@[simp] theorem State.setEngine_p (v : EngineState) : (s.setEngine v).p = s.p := rfl
@[simp] theorem State.setEngine_engine (v : EngineState) : (s.setEngine v).engine = v := rfl
@[simp] theorem State.setEngine_mode (v : EngineState) : (s.setEngine v).mode = s.mode := rfl
@[simp] theorem State.setEngine_nmiPending (v : EngineState) : (s.setEngine v).nmiPending = s.nmiPending := rfl
@[simp] theorem State.setEngine_nmiLine (v : EngineState) : (s.setEngine v).nmiLine = s.nmiLine := rfl
@[simp] theorem State.setEngine_irqLine (v : EngineState) : (s.setEngine v).irqLine = s.irqLine := rfl
@[simp] theorem State.setEngine_storageReady (v : EngineState) : (s.setEngine v).storageReady = s.storageReady := rfl
@[simp] theorem State.setEngine_mem (v : EngineState) : (s.setEngine v).mem = s.mem := rfl
@[simp] theorem State.setEngine_params (v : EngineState) : (s.setEngine v).params = s.params := rfl
@[simp] theorem State.setEngine_drawIndex (v : EngineState) : (s.setEngine v).drawIndex = s.drawIndex := rfl

@[simp] theorem State.setMode_a (v : MemoryMode) : (s.setMode v).a = s.a := rfl
@[simp] theorem State.setMode_x (v : MemoryMode) : (s.setMode v).x = s.x := rfl
@[simp] theorem State.setMode_y (v : MemoryMode) : (s.setMode v).y = s.y := rfl
@[simp] theorem State.setMode_sp (v : MemoryMode) : (s.setMode v).sp = s.sp := rfl
@[simp] theorem State.setMode_pc (v : MemoryMode) : (s.setMode v).pc = s.pc := rfl
@[simp] theorem State.setMode_p (v : MemoryMode) : (s.setMode v).p = s.p := rfl
@[simp] theorem State.setMode_engine (v : MemoryMode) : (s.setMode v).engine = s.engine := rfl
@[simp] theorem State.setMode_mode (v : MemoryMode) : (s.setMode v).mode = v := rfl
@[simp] theorem State.setMode_nmiPending (v : MemoryMode) : (s.setMode v).nmiPending = s.nmiPending := rfl
@[simp] theorem State.setMode_nmiLine (v : MemoryMode) : (s.setMode v).nmiLine = s.nmiLine := rfl
@[simp] theorem State.setMode_irqLine (v : MemoryMode) : (s.setMode v).irqLine = s.irqLine := rfl
@[simp] theorem State.setMode_storageReady (v : MemoryMode) : (s.setMode v).storageReady = s.storageReady := rfl
@[simp] theorem State.setMode_mem (v : MemoryMode) : (s.setMode v).mem = s.mem := rfl
@[simp] theorem State.setMode_params (v : MemoryMode) : (s.setMode v).params = s.params := rfl
@[simp] theorem State.setMode_drawIndex (v : MemoryMode) : (s.setMode v).drawIndex = s.drawIndex := rfl

@[simp] theorem State.setNmiPending_a (v : Bool) : (s.setNmiPending v).a = s.a := rfl
@[simp] theorem State.setNmiPending_x (v : Bool) : (s.setNmiPending v).x = s.x := rfl
@[simp] theorem State.setNmiPending_y (v : Bool) : (s.setNmiPending v).y = s.y := rfl
@[simp] theorem State.setNmiPending_sp (v : Bool) : (s.setNmiPending v).sp = s.sp := rfl
@[simp] theorem State.setNmiPending_pc (v : Bool) : (s.setNmiPending v).pc = s.pc := rfl
@[simp] theorem State.setNmiPending_p (v : Bool) : (s.setNmiPending v).p = s.p := rfl
@[simp] theorem State.setNmiPending_engine (v : Bool) : (s.setNmiPending v).engine = s.engine := rfl
@[simp] theorem State.setNmiPending_mode (v : Bool) : (s.setNmiPending v).mode = s.mode := rfl
@[simp] theorem State.setNmiPending_nmiPending (v : Bool) : (s.setNmiPending v).nmiPending = v := rfl
@[simp] theorem State.setNmiPending_nmiLine (v : Bool) : (s.setNmiPending v).nmiLine = s.nmiLine := rfl
@[simp] theorem State.setNmiPending_irqLine (v : Bool) : (s.setNmiPending v).irqLine = s.irqLine := rfl
@[simp] theorem State.setNmiPending_storageReady (v : Bool) : (s.setNmiPending v).storageReady = s.storageReady := rfl
@[simp] theorem State.setNmiPending_mem (v : Bool) : (s.setNmiPending v).mem = s.mem := rfl
@[simp] theorem State.setNmiPending_params (v : Bool) : (s.setNmiPending v).params = s.params := rfl
@[simp] theorem State.setNmiPending_drawIndex (v : Bool) : (s.setNmiPending v).drawIndex = s.drawIndex := rfl

@[simp] theorem State.setLines_a (m r : Bool) : (s.setLines m r).a = s.a := rfl
@[simp] theorem State.setLines_x (m r : Bool) : (s.setLines m r).x = s.x := rfl
@[simp] theorem State.setLines_y (m r : Bool) : (s.setLines m r).y = s.y := rfl
@[simp] theorem State.setLines_sp (m r : Bool) : (s.setLines m r).sp = s.sp := rfl
@[simp] theorem State.setLines_pc (m r : Bool) : (s.setLines m r).pc = s.pc := rfl
@[simp] theorem State.setLines_p (m r : Bool) : (s.setLines m r).p = s.p := rfl
@[simp] theorem State.setLines_engine (m r : Bool) : (s.setLines m r).engine = s.engine := rfl
@[simp] theorem State.setLines_mode (m r : Bool) : (s.setLines m r).mode = s.mode := rfl
@[simp] theorem State.setLines_nmiPending (m r : Bool) : (s.setLines m r).nmiPending = s.nmiPending := rfl
@[simp] theorem State.setLines_nmiLine (m r : Bool) : (s.setLines m r).nmiLine = m := rfl
@[simp] theorem State.setLines_irqLine (m r : Bool) : (s.setLines m r).irqLine = r := rfl
@[simp] theorem State.setLines_storageReady (m r : Bool) : (s.setLines m r).storageReady = s.storageReady := rfl
@[simp] theorem State.setLines_mem (m r : Bool) : (s.setLines m r).mem = s.mem := rfl
@[simp] theorem State.setLines_params (m r : Bool) : (s.setLines m r).params = s.params := rfl
@[simp] theorem State.setLines_drawIndex (m r : Bool) : (s.setLines m r).drawIndex = s.drawIndex := rfl

@[simp] theorem State.setStorageReady_a (v : Bool) : (s.setStorageReady v).a = s.a := rfl
@[simp] theorem State.setStorageReady_x (v : Bool) : (s.setStorageReady v).x = s.x := rfl
@[simp] theorem State.setStorageReady_y (v : Bool) : (s.setStorageReady v).y = s.y := rfl
@[simp] theorem State.setStorageReady_sp (v : Bool) : (s.setStorageReady v).sp = s.sp := rfl
@[simp] theorem State.setStorageReady_pc (v : Bool) : (s.setStorageReady v).pc = s.pc := rfl
@[simp] theorem State.setStorageReady_p (v : Bool) : (s.setStorageReady v).p = s.p := rfl
@[simp] theorem State.setStorageReady_engine (v : Bool) : (s.setStorageReady v).engine = s.engine := rfl
@[simp] theorem State.setStorageReady_mode (v : Bool) : (s.setStorageReady v).mode = s.mode := rfl
@[simp] theorem State.setStorageReady_nmiPending (v : Bool) : (s.setStorageReady v).nmiPending = s.nmiPending := rfl
@[simp] theorem State.setStorageReady_nmiLine (v : Bool) : (s.setStorageReady v).nmiLine = s.nmiLine := rfl
@[simp] theorem State.setStorageReady_irqLine (v : Bool) : (s.setStorageReady v).irqLine = s.irqLine := rfl
@[simp] theorem State.setStorageReady_storageReady (v : Bool) : (s.setStorageReady v).storageReady = v := rfl
@[simp] theorem State.setStorageReady_mem (v : Bool) : (s.setStorageReady v).mem = s.mem := rfl
@[simp] theorem State.setStorageReady_params (v : Bool) : (s.setStorageReady v).params = s.params := rfl
@[simp] theorem State.setStorageReady_drawIndex (v : Bool) : (s.setStorageReady v).drawIndex = s.drawIndex := rfl

@[simp] theorem State.setMem_a (v : Memory) : (s.setMem v).a = s.a := rfl
@[simp] theorem State.setMem_x (v : Memory) : (s.setMem v).x = s.x := rfl
@[simp] theorem State.setMem_y (v : Memory) : (s.setMem v).y = s.y := rfl
@[simp] theorem State.setMem_sp (v : Memory) : (s.setMem v).sp = s.sp := rfl
@[simp] theorem State.setMem_pc (v : Memory) : (s.setMem v).pc = s.pc := rfl
@[simp] theorem State.setMem_p (v : Memory) : (s.setMem v).p = s.p := rfl
@[simp] theorem State.setMem_engine (v : Memory) : (s.setMem v).engine = s.engine := rfl
@[simp] theorem State.setMem_mode (v : Memory) : (s.setMem v).mode = s.mode := rfl
@[simp] theorem State.setMem_nmiPending (v : Memory) : (s.setMem v).nmiPending = s.nmiPending := rfl
@[simp] theorem State.setMem_nmiLine (v : Memory) : (s.setMem v).nmiLine = s.nmiLine := rfl
@[simp] theorem State.setMem_irqLine (v : Memory) : (s.setMem v).irqLine = s.irqLine := rfl
@[simp] theorem State.setMem_storageReady (v : Memory) : (s.setMem v).storageReady = s.storageReady := rfl
@[simp] theorem State.setMem_mem (v : Memory) : (s.setMem v).mem = v := rfl
@[simp] theorem State.setMem_params (v : Memory) : (s.setMem v).params = s.params := rfl
@[simp] theorem State.setMem_drawIndex (v : Memory) : (s.setMem v).drawIndex = s.drawIndex := rfl

@[simp] theorem State.setDrawIndex_a (v : Nat) : (s.setDrawIndex v).a = s.a := rfl
@[simp] theorem State.setDrawIndex_x (v : Nat) : (s.setDrawIndex v).x = s.x := rfl
@[simp] theorem State.setDrawIndex_y (v : Nat) : (s.setDrawIndex v).y = s.y := rfl
@[simp] theorem State.setDrawIndex_sp (v : Nat) : (s.setDrawIndex v).sp = s.sp := rfl
@[simp] theorem State.setDrawIndex_pc (v : Nat) : (s.setDrawIndex v).pc = s.pc := rfl
@[simp] theorem State.setDrawIndex_p (v : Nat) : (s.setDrawIndex v).p = s.p := rfl
@[simp] theorem State.setDrawIndex_engine (v : Nat) : (s.setDrawIndex v).engine = s.engine := rfl
@[simp] theorem State.setDrawIndex_mode (v : Nat) : (s.setDrawIndex v).mode = s.mode := rfl
@[simp] theorem State.setDrawIndex_nmiPending (v : Nat) : (s.setDrawIndex v).nmiPending = s.nmiPending := rfl
@[simp] theorem State.setDrawIndex_nmiLine (v : Nat) : (s.setDrawIndex v).nmiLine = s.nmiLine := rfl
@[simp] theorem State.setDrawIndex_irqLine (v : Nat) : (s.setDrawIndex v).irqLine = s.irqLine := rfl
@[simp] theorem State.setDrawIndex_storageReady (v : Nat) : (s.setDrawIndex v).storageReady = s.storageReady := rfl
@[simp] theorem State.setDrawIndex_mem (v : Nat) : (s.setDrawIndex v).mem = s.mem := rfl
@[simp] theorem State.setDrawIndex_params (v : Nat) : (s.setDrawIndex v).params = s.params := rfl
@[simp] theorem State.setDrawIndex_drawIndex (v : Nat) : (s.setDrawIndex v).drawIndex = v := rfl

@[simp] theorem State.advance_a (n : Nat) : (s.advance n).a = s.a := rfl
@[simp] theorem State.advance_x (n : Nat) : (s.advance n).x = s.x := rfl
@[simp] theorem State.advance_y (n : Nat) : (s.advance n).y = s.y := rfl
@[simp] theorem State.advance_sp (n : Nat) : (s.advance n).sp = s.sp := rfl
@[simp] theorem State.advance_pc (n : Nat) : (s.advance n).pc = s.pc + BitVec.ofNat 16 n := rfl
@[simp] theorem State.advance_p (n : Nat) : (s.advance n).p = s.p := rfl
@[simp] theorem State.advance_engine (n : Nat) : (s.advance n).engine = s.engine := rfl
@[simp] theorem State.advance_mode (n : Nat) : (s.advance n).mode = s.mode := rfl
@[simp] theorem State.advance_nmiPending (n : Nat) : (s.advance n).nmiPending = s.nmiPending := rfl
@[simp] theorem State.advance_nmiLine (n : Nat) : (s.advance n).nmiLine = s.nmiLine := rfl
@[simp] theorem State.advance_irqLine (n : Nat) : (s.advance n).irqLine = s.irqLine := rfl
@[simp] theorem State.advance_storageReady (n : Nat) : (s.advance n).storageReady = s.storageReady := rfl
@[simp] theorem State.advance_mem (n : Nat) : (s.advance n).mem = s.mem := rfl
@[simp] theorem State.advance_params (n : Nat) : (s.advance n).params = s.params := rfl
@[simp] theorem State.advance_drawIndex (n : Nat) : (s.advance n).drawIndex = s.drawIndex := rfl

end Sys2Proof.Machine
end

