-- ==== Sys2Proof/Laws/Ops.lean ====
section
/-! SUPPORT. What each shared operation over Storage, the MTU, the stack and the status byte can do. -/

namespace Sys2Proof.Machine

open Sys2Proof.Config

variable (s : State)

/-! ### The status byte -/

@[simp] theorem Status.ofByte_toByte (p : Status) : Status.ofByte p.toByte = p := by
  obtain ⟨n, v, u, b, d, i, z, c⟩ := p
  revert n v u b d i z c
  decide

theorem Status.toByte_or_break (p : Status) : p.toByte ||| 0x10#8 = Status.toByte { p with b := true } := by
  obtain ⟨n, v, u, b, d, i, z, c⟩ := p
  revert n v u b d i z c
  decide

theorem Status.toByte_and_break (p : Status) : p.toByte &&& 0xEF#8 = Status.toByte { p with b := false } := by
  obtain ⟨n, v, u, b, d, i, z, c⟩ := p
  revert n v u b d i z c
  decide

theorem Status.getLsbD_toByte (p : Status) :
    p.toByte.getLsbD 7 = p.n ∧ p.toByte.getLsbD 6 = p.v ∧ p.toByte.getLsbD 5 = p.u ∧ p.toByte.getLsbD 4 = p.b ∧
      p.toByte.getLsbD 3 = p.d ∧ p.toByte.getLsbD 2 = p.i ∧ p.toByte.getLsbD 1 = p.z ∧ p.toByte.getLsbD 0 = p.c := by
  obtain ⟨n, v, u, b, d, i, z, c⟩ := p
  revert n v u b d i z c
  decide

/-- PLP and RTI take every flag but B and U from the pulled byte. -/
theorem Status.restore_eq (p : Status) (q : Byte) :
    p.restore q = { Status.ofByte q with b := p.b, u := p.u } := by
  obtain ⟨-, -, h5, h4, -⟩ := Status.getLsbD_toByte p
  simp only [Status.restore, Status.ofByte, BitVec.getLsbD_or, BitVec.getLsbD_and, h5, h4]
  simp

/-! ### Storage -/

theorem State.storageRead_ready (h : s.storageReady = true) (o : Word) :
    s.storageRead o = Memory.get s.mem o.toNat := by
  simp [State.storageRead, h]

/-- A storage read depends on Storage alone. -/
theorem State.storageRead_congr {s t : State} (hm : t.mem = s.mem) (hr : t.storageReady = s.storageReady) (o : Word) :
    t.storageRead o = s.storageRead o := by
  simp [State.storageRead, hm, hr]

/-- Everything a storage write does: the field `mem`, nothing else. -/
theorem State.storageWrite_eq (o : Word) (v : Byte) :
    s.storageWrite o v = s.setMem (if s.storageReady then Memory.set s.mem o.toNat v else s.mem) := by
  unfold State.storageWrite
  split <;> rfl

theorem State.storageRead_storageWrite (o : Word) (v : Byte) (q : Word) (h : s.storageReady = true) :
    (s.storageWrite o v).storageRead q = if o = q then v else s.storageRead q := by
  simp only [State.storageWrite, State.storageRead, h, if_true, State.setMem_mem, State.setMem_storageReady,
    Memory.get_set, BitVec.toNat_inj]

/-! ### The MTU -/

theorem State.peek_congr {s t : State} (hm : t.mem = s.mem) (hr : t.storageReady = s.storageReady)
    (hmode : t.mode = s.mode) (a : Word) : t.peek a = s.peek a := by
  simp [State.peek, State.storageRead, hm, hr, hmode]

/-- Everything a memory read does to the state: the draw counter, nothing else. -/
theorem State.memRead_state (a : Word) : (s.memRead a).2 = s.setDrawIndex (s.memRead a).2.drawIndex := by
  unfold State.memRead
  split <;> rfl

theorem State.memRead_storage (h : s.params.ioModel = .storage) (a : Word) : s.memRead a = (s.peek a, s) := by
  simp [State.memRead, h]

theorem State.memRead_notIo {a : Word} (h : isIoWindow a = false) : s.memRead a = (s.peek a, s) := by
  simp [State.memRead, h]

/-- Everything a memory write does: the field `mem`, nothing else. -/
theorem State.memWrite_eq (a : Word) (v : Byte) : s.memWrite a v = s.setMem (s.memWrite a v).mem := by
  unfold State.memWrite
  split
  · rfl
  · rw [State.storageWrite_eq]; rfl

/-- The bytes a memory write leaves. -/
theorem State.memWrite_mem (a : Word) (v : Byte) :
    (s.memWrite a v).mem =
      if (0x8000#16 ≤ a ∧ s.params.prgWritable = false) ∨ s.storageReady = false then s.mem
      else Memory.set s.mem (translateAddr a s.mode).toNat v := by
  unfold State.memWrite State.storageWrite
  by_cases h : 0x8000#16 ≤ a ∧ s.params.prgWritable = false
  · simp [h]
  · cases hr : s.storageReady <;> simp [h]

theorem State.memWrite_storageRead (a : Word) (v : Byte) (o : Word) :
    (s.memWrite a v).storageRead o =
      if (0x8000#16 ≤ a ∧ s.params.prgWritable = false) ∨ s.storageReady = false then s.storageRead o
      else if translateAddr a s.mode = o then v else s.storageRead o := by
  have hr : (s.memWrite a v).storageReady = s.storageReady := by rw [State.memWrite_eq]; rfl
  rw [State.storageRead, hr, State.memWrite_mem]
  by_cases h : 0x8000#16 ≤ a ∧ s.params.prgWritable = false
  · simp [h, State.storageRead]
  · cases hr : s.storageReady <;> simp [h, hr, State.storageRead, Memory.get_set, BitVec.toNat_inj]

section
variable (a : Word) (v : Byte)
@[simp] theorem State.memWrite_a : (s.memWrite a v).a = s.a := by rw [State.memWrite_eq]; rfl
@[simp] theorem State.memWrite_x : (s.memWrite a v).x = s.x := by rw [State.memWrite_eq]; rfl
@[simp] theorem State.memWrite_y : (s.memWrite a v).y = s.y := by rw [State.memWrite_eq]; rfl
@[simp] theorem State.memWrite_sp : (s.memWrite a v).sp = s.sp := by rw [State.memWrite_eq]; rfl
@[simp] theorem State.memWrite_pc : (s.memWrite a v).pc = s.pc := by rw [State.memWrite_eq]; rfl
@[simp] theorem State.memWrite_p : (s.memWrite a v).p = s.p := by rw [State.memWrite_eq]; rfl
@[simp] theorem State.memWrite_engine : (s.memWrite a v).engine = s.engine := by rw [State.memWrite_eq]; rfl
@[simp] theorem State.memWrite_mode : (s.memWrite a v).mode = s.mode := by rw [State.memWrite_eq]; rfl
@[simp] theorem State.memWrite_nmiPending : (s.memWrite a v).nmiPending = s.nmiPending := by rw [State.memWrite_eq]; rfl
@[simp] theorem State.memWrite_nmiLine : (s.memWrite a v).nmiLine = s.nmiLine := by rw [State.memWrite_eq]; rfl
@[simp] theorem State.memWrite_irqLine : (s.memWrite a v).irqLine = s.irqLine := by rw [State.memWrite_eq]; rfl
@[simp] theorem State.memWrite_storageReady : (s.memWrite a v).storageReady = s.storageReady := by rw [State.memWrite_eq]; rfl
@[simp] theorem State.memWrite_params : (s.memWrite a v).params = s.params := by rw [State.memWrite_eq]; rfl
@[simp] theorem State.memWrite_drawIndex : (s.memWrite a v).drawIndex = s.drawIndex := by rw [State.memWrite_eq]; rfl

/-- Every write through the MTU keeps the canonical form of memory. -/
theorem State.memWrite_wf (h : Memory.wf s.mem = true) : Memory.wf (s.memWrite a v).mem = true := by
  rw [State.memWrite_mem]
  split
  · exact h
  · exact Memory.wf_set h (translateAddr a s.mode).isLt v
end

/-! ### Addresses the engine reads that no I/O window holds -/

theorem isIoWindow_zext (b : Byte) : isIoWindow (zext b) = false := by
  revert b; decide

theorem isIoWindow_stackAddr (b : Byte) : isIoWindow (stackAddr b) = false := by
  revert b; decide

theorem translateAddr_zext (b : Byte) (m : MemoryMode) : translateAddr (zext b) m = zext b := by
  cases m <;> (revert b; decide)

theorem translateAddr_stackAddr (b : Byte) (m : MemoryMode) : translateAddr (stackAddr b) m = stackAddr b := by
  cases m <;> (revert b; decide)

theorem stackAddr_not_prg (b : Byte) : ¬ (0x8000#16 ≤ stackAddr b) := by
  revert b; decide

theorem stackAddr_inj {b c : Byte} : stackAddr b = stackAddr c ↔ b = c := by
  simp only [stackAddr, zext, ← BitVec.toNat_inj]
  have := b.isLt
  have := c.isLt
  simp [BitVec.toNat_add]
  omega

/-! ### The stack -/

/-- Everything a push does: one byte of the stack page, and S. -/
theorem State.push_eq (v : Byte) :
    s.push v = (s.setMem (s.memWrite (stackAddr s.sp) v).mem).setSp (s.sp - 1#8) := by
  unfold State.push; rw [State.memWrite_eq]; rfl

theorem State.push_mem (v : Byte) :
    (s.push v).mem = if s.storageReady then Memory.set s.mem (stackAddr s.sp).toNat v else s.mem := by
  rw [State.push_eq]
  simp [State.memWrite_mem, stackAddr_not_prg, translateAddr_stackAddr]
  cases s.storageReady <;> simp

theorem State.push_storageRead (v : Byte) (o : Word) (h : s.storageReady = true) :
    (s.push v).storageRead o = if stackAddr s.sp = o then v else s.storageRead o := by
  have hr : (s.push v).storageReady = true := by rw [State.push_eq]; exact h
  rw [State.storageRead_ready _ hr, State.push_mem, h, if_pos rfl, Memory.get_set, State.storageRead_ready _ h]
  simp [BitVec.toNat_inj]

@[simp] theorem State.push_sp (v : Byte) : (s.push v).sp = s.sp - 1#8 := rfl

theorem State.push_wf (v : Byte) (h : Memory.wf s.mem = true) : Memory.wf (s.push v).mem = true := by
  rw [State.push_eq]; exact State.memWrite_wf s _ _ h

/-- Everything a pull does: the byte read, and S. -/
theorem State.pull_eq : s.pull = (s.storageRead (stackAddr (s.sp + 1#8)), s.setSp (s.sp + 1#8)) := by
  unfold State.pull
  rw [State.memRead_notIo _ (isIoWindow_stackAddr _), State.peek, translateAddr_stackAddr]
  rfl

/-- Everything a 16-bit push does: two bytes of the stack page, and S. -/
theorem State.pushWord_eq (w : Word) :
    s.pushWord w = (s.setMem (s.pushWord w).mem).setSp (s.sp - 2#8) := by
  unfold State.pushWord
  rw [State.push_eq (s.push _), State.push_eq s]
  ext1 <;> simp
  bv_omega

theorem State.pushWord_wf (w : Word) (h : Memory.wf s.mem = true) : Memory.wf (s.pushWord w).mem = true :=
  State.push_wf _ _ (State.push_wf _ _ h)

/-- Everything a 16-bit pull does: the two bytes read, low first, and S. -/
theorem State.pullWord_eq :
    s.pullWord = (wordOf (s.storageRead (stackAddr (s.sp + 1#8))) (s.storageRead (stackAddr (s.sp + 2#8))),
      s.setSp (s.sp + 2#8)) := by
  have h : s.sp + 1#8 + 1#8 = s.sp + 2#8 := by bv_omega
  simp only [State.pullWord, State.pull_eq, State.setSp_sp, h]
  rfl

theorem wordOf_toNat (lo hi : Byte) : (wordOf lo hi).toNat = lo.toNat + 256 * hi.toNat := by
  have h1 := lo.isLt
  rw [wordOf, BitVec.toNat_append, ← Nat.shiftLeft_add_eq_or_of_lt h1, Nat.shiftLeft_eq]
  omega

@[simp] theorem wordOf_lo_hi (w : Word) : wordOf (loByte w) (hiByte w) = w := by
  apply BitVec.eq_of_toNat_eq
  rw [wordOf_toNat]
  have := w.isLt
  simp [loByte, hiByte, BitVec.extractLsb'_toNat, Nat.shiftRight_eq_div_pow]
  omega

@[simp] theorem loByte_wordOf (lo hi : Byte) : loByte (wordOf lo hi) = lo := by
  apply BitVec.eq_of_toNat_eq
  have := lo.isLt
  simp [loByte, BitVec.extractLsb'_toNat, wordOf_toNat]
  omega

@[simp] theorem hiByte_wordOf (lo hi : Byte) : hiByte (wordOf lo hi) = hi := by
  apply BitVec.eq_of_toNat_eq
  have := lo.isLt
  have := hi.isLt
  simp [hiByte, BitVec.extractLsb'_toNat, wordOf_toNat, Nat.shiftRight_eq_div_pow]
  omega

@[simp] theorem loByte_zext (b : Byte) : loByte (zext b) = b := by
  revert b; decide

/-- What a 16-bit push stores: the high byte at S, the low byte below it. -/
theorem State.pushWord_storageRead (w : Word) (h : s.storageReady = true) (o : Word) :
    (s.pushWord w).storageRead o =
      if o = stackAddr s.sp then hiByte w
      else if o = stackAddr (s.sp - 1#8) then loByte w
      else s.storageRead o := by
  have h1 : stackAddr (s.sp - 1#8) ≠ stackAddr s.sp := by
    rw [Ne, stackAddr_inj]; bv_omega
  rw [State.pushWord, State.push_storageRead _ _ _ (by rw [State.push_eq]; exact h), State.push_storageRead _ _ _ h,
    State.push_sp]
  by_cases h2 : o = stackAddr s.sp
  · subst h2; simp [h1]
  · simp only [h2, if_false, eq_comm (a := stackAddr s.sp), eq_comm (a := stackAddr (s.sp - 1#8))]

/-- What the frame of a trap stores: return high, return low, status, going down. -/
theorem State.trapFrame_storageRead (w : Word) (v : Byte) (h : s.storageReady = true) (o : Word) :
    ((s.pushWord w).push v).storageRead o =
      if o = stackAddr s.sp then hiByte w
      else if o = stackAddr (s.sp - 1#8) then loByte w
      else if o = stackAddr (s.sp - 2#8) then v
      else s.storageRead o := by
  have hsp : (s.pushWord w).sp = s.sp - 2#8 := by rw [State.pushWord_eq]; rfl
  have h1 : stackAddr (s.sp - 2#8) ≠ stackAddr s.sp := by
    rw [Ne, stackAddr_inj]; bv_omega
  have h2 : stackAddr (s.sp - 2#8) ≠ stackAddr (s.sp - 1#8) := by
    rw [Ne, stackAddr_inj]; bv_omega
  rw [State.push_storageRead _ _ _ (by rw [State.pushWord_eq]; exact h), State.pushWord_storageRead _ _ h, hsp]
  by_cases h3 : o = stackAddr (s.sp - 2#8)
  · subst h3; simp [h1, h2]
  · simp only [h3, if_false, eq_comm (a := stackAddr (s.sp - 2#8))]

/-- No address of the PRG window names a byte of the stack page. -/
theorem translateAddr_prg_ne_stackAddr {a : Word} (ha : 0x8000#16 ≤ a) (m : MemoryMode) (b : Byte) :
    translateAddr a m ≠ stackAddr b := by
  intro hb
  have h1 : ∀ b, (stackAddr b).toNat < 0x8000 := by decide
  have h2 := a.isLt
  have h3 : 0x8000 ≤ (translateAddr a m).toNat := by
    simp only [BitVec.le_def] at ha
    simp only [translateAddr, BitVec.le_def]
    rw [if_neg (by simp at *; omega), if_neg (by simp at *; omega)]
    split
    · simp [BitVec.toNat_add, BitVec.toNat_umod]; omega
    · simpa using ha
  rw [hb] at h3
  have := h1 b
  omega

/-- The frame of a trap leaves the PRG window, and so the vectors, alone. -/
theorem State.trapFrame_peek (w : Word) (v : Byte) {a : Word} (ha : 0x8000#16 ≤ a) :
    ((s.pushWord w).push v).peek a = s.peek a := by
  have hm : ((s.pushWord w).push v).mode = s.mode := by rw [State.push_eq, State.pushWord_eq]; rfl
  have hr : ((s.pushWord w).push v).storageReady = s.storageReady := by rw [State.push_eq, State.pushWord_eq]; rfl
  rw [State.peek, State.peek, hm]
  by_cases h : s.storageReady = true
  · rw [State.trapFrame_storageRead _ _ _ h]; simp [translateAddr_prg_ne_stackAddr ha]
  · simp [State.storageRead, hr, h]

/-! ### 16-bit reads and traps -/

/-- Everything a 16-bit read does to the state: the draw counter, nothing else. -/
theorem State.read16_state (lo hi : Word) : (s.read16 lo hi).2 = s.setDrawIndex (s.read16 lo hi).2.drawIndex := by
  simp only [State.read16]
  rw [State.memRead_state (s.memRead lo).2, State.memRead_state s]
  rfl

/-- A 16-bit read outside the I/O windows has no effect. -/
theorem State.read16_notIo {lo hi : Word} (h1 : isIoWindow lo = false) (h2 : isIoWindow hi = false) :
    s.read16 lo hi = (wordOf (s.peek lo) (s.peek hi), s) := by
  simp [State.read16, State.memRead_notIo s h1, State.memRead_notIo s h2]

/-- Everything a trap entry does, for a vector outside the I/O windows: three stack bytes, S, I and PC. -/
theorem State.takeTrap_eq (ret : Word) (status : Byte) (vector : Word) (h1 : isIoWindow vector = false)
    (h2 : isIoWindow (vector + 1#16) = false) :
    s.takeTrap ret status vector =
      ((((s.setMem ((s.pushWord ret).push status).mem).setSp (s.sp - 3#8)).setP { s.p with i := true }).setPc
        (wordOf (((s.pushWord ret).push status).peek vector) (((s.pushWord ret).push status).peek (vector + 1#16)))) := by
  have h : s.sp - 2#8 - 1#8 = s.sp - 3#8 := by bv_omega
  have e : (s.pushWord ret).push status = (s.setMem ((s.pushWord ret).push status).mem).setSp (s.sp - 3#8) := by
    rw [State.push_eq, State.pushWord_eq]
    ext1 <;> simp [h]
  simp only [State.takeTrap, State.read16_notIo _ h1 h2]
  rw [e]
  rfl

/-- What a trap entry stores: its frame, nothing else. -/
theorem State.takeTrap_storageRead (ret : Word) (status : Byte) (vector : Word) (h : s.storageReady = true) (o : Word) :
    (s.takeTrap ret status vector).storageRead o =
      if o = stackAddr s.sp then hiByte ret
      else if o = stackAddr (s.sp - 1#8) then loByte ret
      else if o = stackAddr (s.sp - 2#8) then status
      else s.storageRead o := by
  have e : (s.takeTrap ret status vector).storageRead o = ((s.pushWord ret).push status).storageRead o := by
    simp only [State.takeTrap]
    rw [State.read16_state]
    rfl
  rw [e, State.trapFrame_storageRead _ _ _ h]

theorem State.takeTrap_wf (ret : Word) (status : Byte) (vector : Word) (h : Memory.wf s.mem = true) :
    Memory.wf (s.takeTrap ret status vector).mem = true := by
  simp only [State.takeTrap, State.setPc_mem, State.setP_mem]
  rw [State.read16_state]
  exact State.push_wf _ _ (State.pushWord_wf _ _ h)

/-- Everything a return from a trap does: the flags but B and U, PC, and S. -/
theorem State.returnFromTrap_eq :
    s.returnFromTrap =
      ((s.setP (s.p.restore (s.storageRead (stackAddr (s.sp + 1#8))))).setSp (s.sp + 3#8)).setPc
        (wordOf (s.storageRead (stackAddr (s.sp + 2#8))) (s.storageRead (stackAddr (s.sp + 3#8)))) := by
  have h2 : s.sp + 1#8 + 1#8 = s.sp + 2#8 := by bv_omega
  have h3 : s.sp + 1#8 + 2#8 = s.sp + 3#8 := by bv_omega
  simp only [State.returnFromTrap, State.pull_eq, State.pullWord_eq, State.setP_sp, State.setSp_sp, h2, h3]
  rfl

end Sys2Proof.Machine
end

