-- ==== Sys2Proof/Laws/Decode.lean ====
section
/-! SUPPORT. The dispatch slot of each instruction's opcode, and what the decoder makes of an opcode and its operand. -/

namespace Sys2Proof

/-- The slot of an instruction's opcode holds its mnemonic, mode and kind, and builds it from its operand. -/
theorem dispatch_opcode (i : Instr) :
    ∃ e, dispatch i.opcode = some e ∧ e.mnemonic = i.mnemonic ∧ e.mode = i.mode ∧ e.kind = i.kind ∧
      e.build i.operand = i := by
  cases i <;> simp only [Instr.opcode] <;> refine ⟨_, rfl, rfl, rfl, rfl, ?_⟩ <;>
    simp only [Instr.operand, Machine.loByte_zext]

/-- Every mode's instructions are one, two or three bytes long. -/
theorem Mode.length_cases (m : Mode) : m.length = 1 ∨ m.length = 2 ∨ m.length = 3 := by
  cases m <;> simp [Mode.length]

/-- What a populated slot builds: an instruction with that opcode and the slot's mode, whose operand is the part of the
assembled operand its length carries. -/
theorem dispatch_build : ∀ (op : Byte) (e : DispatchEntry) (w : Word), dispatch op = some e →
    (e.build w).opcode = op ∧ (e.build w).mode = e.mode ∧
    ((e.mode.length = 1 → (e.build w).operand = 0#16) ∧
      (e.mode.length = 2 → (e.build w).operand = zext (loByte w)) ∧
      (e.mode.length = 3 → (e.build w).operand = w)) := by
  intro op e w h
  obtain ⟨⟨n, hn⟩⟩ := op
  simp only [dispatch, BitVec.toNat_ofFin] at h
  interval_cases n <;> first
    | (cases h; done)
    | (cases h; exact ⟨rfl, rfl, by simp [Mode.length, Instr.operand]⟩)

/-- Everything `describe` can answer for a non-empty buffer. -/
theorem describe_cons (op : Byte) (rest : List Byte) :
    (dispatch op = none ∧ describe (op :: rest) = .error .unknownOpcode) ∨
    (∃ e, dispatch op = some e ∧ rest.length + 1 < e.mode.length ∧ describe (op :: rest) = .error .truncatedBuffer) ∨
    (∃ e, dispatch op = some e ∧ e.mode.length ≤ rest.length + 1 ∧
      describe (op :: rest) = .ok ⟨op, e.mode.length, operandOf e.mode.length rest⟩) := by
  cases h : dispatch op with
  | none => exact .inl ⟨rfl, by simp only [describe, h]⟩
  | some e =>
    by_cases hl : rest.length + 1 < e.mode.length
    · exact .inr (.inl ⟨e, rfl, hl, by simp only [describe, h, if_pos hl]⟩)
    · exact .inr (.inr ⟨e, rfl, by omega, by simp only [describe, h, if_neg hl]⟩)

end Sys2Proof
end

