-- ==== Sys2Proof/Laws/Operands.lean ====
section
/-! SUPPORT. What the resolver, the operand read and the engine's paths can do. -/

namespace Sys2Proof.Machine

open Sys2Proof.Config

variable (s : State) (mode : Mode) (w : Word)

theorem wordOf_getLsbD (lo hi : Byte) (k : Nat) :
    (wordOf lo hi).getLsbD k = if k < 8 then lo.getLsbD k else hi.getLsbD (k - 8) :=
  BitVec.getLsbD_append

/-- The page-boundary bug in numbers: a pointer at the end of a page takes its high byte from the start of that page. -/
theorem pointerHighAddr_eq (ptr : Word) :
    pointerHighAddr ptr = if ptr.toNat % 256 = 255 then ptr - 255#16 else ptr + 1#16 := by
  have e : pointerHighAddr ptr = wordOf (loByte (ptr + 1#16)) (hiByte ptr) := by
    have h : ∀ a b : Word, (a &&& 0xFF00#16) ||| (b &&& 0x00FF#16) = wordOf (loByte b) (hiByte a) := by
      intro a b
      apply BitVec.eq_of_getLsbD_eq
      intro k hk
      rw [wordOf_getLsbD]
      interval_cases k <;> simp [loByte, hiByte]
    exact h _ _
  have := ptr.isLt
  rw [e, ← BitVec.toNat_inj, wordOf_toNat]
  split <;> simp [loByte, hiByte, BitVec.extractLsb'_toNat, Nat.shiftRight_eq_div_pow, BitVec.toNat_sub,
    BitVec.toNat_add] <;> omega

/-- A zero-page pointer read has no effect and reads two stored bytes. -/
theorem State.zeroPagePointer_eq (b : Byte) :
    s.zeroPagePointer b = (wordOf (s.peek (zext b)) (s.peek (zext (b + 1#8))), s) :=
  State.read16_notIo _ (isIoWindow_zext _) (isIoWindow_zext _)

/-- Everything resolving does to the state: the draw counter, nothing else. -/
theorem State.resolve_state : (s.resolve mode w).2 = s.setDrawIndex (s.resolve mode w).2.drawIndex := by
  cases mode <;> try rfl
  · simp only [State.resolve, State.zeroPagePointer_eq]; rfl
  · simp only [State.resolve, State.zeroPagePointer_eq]; rfl
  · exact State.read16_state _ _ _

/-- Every mode but IndirectAbsolute resolves without any effect. -/
theorem State.resolve_pure (h : mode ≠ .indirectAbsolute) : (s.resolve mode w).2 = s := by
  cases mode <;> simp_all [State.resolve, State.zeroPagePointer_eq]

/-- Everything an operand read does to the state: the draw counter, nothing else. -/
theorem State.operandRead_state :
    (s.operandRead mode w).2 = s.setDrawIndex (s.operandRead mode w).2.drawIndex := by
  unfold State.operandRead
  split
  · rfl
  · rfl
  · simp only
    rw [State.memRead_state, State.resolve_state]
    rfl

/-- The Register kind path: the operation on M in the state the read leaves, then the PC advance. -/
theorem State.registerForm_eq (op : Byte → State → State) :
    s.registerForm mode w op =
      (op (s.operandValue mode w) (s.setDrawIndex (s.operandRead mode w).2.drawIndex)).advance mode.length := by
  unfold State.registerForm State.operandValue
  rw [← State.operandRead_state]

/-- A Memory kind form reads M where any operand read does. -/
theorem State.operandRead_memory (h1 : mode ≠ .accumulator) (h2 : mode ≠ .immediate) :
    s.operandRead mode w = (s.resolve mode w).2.memRead (s.resolve mode w).1 := by
  cases mode <;> simp_all [State.operandRead]

/-- The Memory kind path, for an operation that writes no field but the flags: the result is stored at the effective
address, the flags are written, PC advances. -/
theorem State.memoryForm_eq (h1 : mode ≠ .accumulator) (h2 : mode ≠ .immediate)
    (op : Byte → State → Byte × State) (r : Byte) (p : Status) (d : Nat)
    (hd : d = (s.operandRead mode w).2.drawIndex)
    (hop : op (s.operandValue mode w) (s.setDrawIndex d) = (r, (s.setDrawIndex d).setP p)) :
    s.memoryForm mode w op =
      (((s.setMem (s.memWrite (s.effectiveAddress mode w) r).mem).setP p).setDrawIndex d).advance mode.length := by
  have hm : (s.resolve mode w).2.memRead (s.resolve mode w).1 = (s.operandValue mode w, s.setDrawIndex d) := by
    rw [← State.operandRead_memory s mode w h1 h2, hd, ← State.operandRead_state]
    rfl
  simp only [State.memoryForm, hm, hop]
  rw [State.memWrite_eq]
  simp only [State.memWrite_mem]
  rfl

end Sys2Proof.Machine
end

