-- ==== Sys2Proof/Laws/Engine.lean ====
section
/-! SUPPORT. What a step does before an instruction's own effect, and everything a step can answer. -/

namespace Sys2Proof.Machine

open Sys2Proof.Config

variable (s : State)

/-- Everything a fetch does to the state: the draw counter, nothing else. -/
theorem State.fetch_state : s.fetch.2 = s.setDrawIndex s.fetch.2.drawIndex := by
  simp only [State.fetch]
  rw [State.memRead_state ((s.memRead s.pc).2.memRead (s.pc + 1#16)).2, State.memRead_state (s.memRead s.pc).2,
    State.memRead_state s]
  rfl

/-- Under `IO_MODEL = storage` a fetch reads three stored bytes and has no effect. -/
theorem State.fetch_storage (h : s.params.ioModel = .storage) :
    s.fetch = ([s.peek s.pc, s.peek (s.pc + 1#16), s.peek (s.pc + 2#16)], s) := by
  simp [State.fetch, State.memRead_storage s h]

/-- Disconnected inputs are not sampled. -/
theorem State.sampleInputs_disconnected (h : s.params.interruptsConnected = false) : s.sampleInputs = s := by
  simp [State.sampleInputs, h]

/-- Everything sampling the inputs does: nmi_pending, the two levels and the draw counter. -/
theorem State.sampleInputs_eq :
    s.sampleInputs = ((s.setNmiPending s.sampleInputs.nmiPending).setLines s.sampleInputs.nmiLine
      s.sampleInputs.irqLine).setDrawIndex s.sampleInputs.drawIndex := by
  simp only [State.sampleInputs, State.driveInputs]
  split <;> rfl

/-- Disconnected inputs make no interrupt due. -/
theorem State.interruptDue_disconnected (h : s.params.interruptsConnected = false) : s.interruptDue = none := by
  simp [State.interruptDue, h]

/-! ### Field by field -/

@[simp] theorem State.sampleInputs_a : s.sampleInputs.a = s.a := by rw [State.sampleInputs_eq]; rfl
@[simp] theorem State.sampleInputs_x : s.sampleInputs.x = s.x := by rw [State.sampleInputs_eq]; rfl
@[simp] theorem State.sampleInputs_y : s.sampleInputs.y = s.y := by rw [State.sampleInputs_eq]; rfl
@[simp] theorem State.sampleInputs_sp : s.sampleInputs.sp = s.sp := by rw [State.sampleInputs_eq]; rfl
@[simp] theorem State.sampleInputs_pc : s.sampleInputs.pc = s.pc := by rw [State.sampleInputs_eq]; rfl
@[simp] theorem State.sampleInputs_p : s.sampleInputs.p = s.p := by rw [State.sampleInputs_eq]; rfl
@[simp] theorem State.sampleInputs_engine : s.sampleInputs.engine = s.engine := by rw [State.sampleInputs_eq]; rfl
@[simp] theorem State.sampleInputs_mode : s.sampleInputs.mode = s.mode := by rw [State.sampleInputs_eq]; rfl
@[simp] theorem State.sampleInputs_storageReady : s.sampleInputs.storageReady = s.storageReady := by rw [State.sampleInputs_eq]; rfl
@[simp] theorem State.sampleInputs_mem : s.sampleInputs.mem = s.mem := by rw [State.sampleInputs_eq]; rfl
@[simp] theorem State.sampleInputs_params : s.sampleInputs.params = s.params := by rw [State.sampleInputs_eq]; rfl

@[simp] theorem State.fetch_a : s.fetch.2.a = s.a := by rw [State.fetch_state]; rfl
@[simp] theorem State.fetch_x : s.fetch.2.x = s.x := by rw [State.fetch_state]; rfl
@[simp] theorem State.fetch_y : s.fetch.2.y = s.y := by rw [State.fetch_state]; rfl
@[simp] theorem State.fetch_sp : s.fetch.2.sp = s.sp := by rw [State.fetch_state]; rfl
@[simp] theorem State.fetch_pc : s.fetch.2.pc = s.pc := by rw [State.fetch_state]; rfl
@[simp] theorem State.fetch_p : s.fetch.2.p = s.p := by rw [State.fetch_state]; rfl
@[simp] theorem State.fetch_engine : s.fetch.2.engine = s.engine := by rw [State.fetch_state]; rfl
@[simp] theorem State.fetch_mode : s.fetch.2.mode = s.mode := by rw [State.fetch_state]; rfl
@[simp] theorem State.fetch_nmiPending : s.fetch.2.nmiPending = s.nmiPending := by rw [State.fetch_state]; rfl
@[simp] theorem State.fetch_nmiLine : s.fetch.2.nmiLine = s.nmiLine := by rw [State.fetch_state]; rfl
@[simp] theorem State.fetch_irqLine : s.fetch.2.irqLine = s.irqLine := by rw [State.fetch_state]; rfl
@[simp] theorem State.fetch_storageReady : s.fetch.2.storageReady = s.storageReady := by rw [State.fetch_state]; rfl
@[simp] theorem State.fetch_mem : s.fetch.2.mem = s.mem := by rw [State.fetch_state]; rfl
@[simp] theorem State.fetch_params : s.fetch.2.params = s.params := by rw [State.fetch_state]; rfl

/-- Everything interrupt entry does: three stack bytes, S, I, PC, and an NMI's latch. -/
theorem State.enterInterrupt_eq (src : Interrupt) :
    s.enterInterrupt src = { s with
      mem := (s.enterInterrupt src).mem
      sp := s.sp - 3#8
      p := { s.p with i := true }
      pc := (s.enterInterrupt src).pc
      nmiPending := (s.enterInterrupt src).nmiPending } := by
  cases src <;>
    (simp only [State.enterInterrupt]; rw [State.takeTrap_eq _ _ _ _ (by decide) (by decide)]; rfl)

theorem State.enterInterrupt_wf (src : Interrupt) (h : Memory.wf s.mem = true) :
    Memory.wf (s.enterInterrupt src).mem = true := by
  cases src <;> exact State.takeTrap_wf _ _ _ _ h

section
variable (src : Interrupt)
@[simp] theorem State.enterInterrupt_a : (s.enterInterrupt src).a = s.a := by
  rw [State.enterInterrupt_eq]
@[simp] theorem State.enterInterrupt_x : (s.enterInterrupt src).x = s.x := by
  rw [State.enterInterrupt_eq]
@[simp] theorem State.enterInterrupt_y : (s.enterInterrupt src).y = s.y := by
  rw [State.enterInterrupt_eq]
@[simp] theorem State.enterInterrupt_engine : (s.enterInterrupt src).engine = s.engine := by
  rw [State.enterInterrupt_eq]
@[simp] theorem State.enterInterrupt_mode : (s.enterInterrupt src).mode = s.mode := by
  rw [State.enterInterrupt_eq]
@[simp] theorem State.enterInterrupt_nmiLine : (s.enterInterrupt src).nmiLine = s.nmiLine := by
  rw [State.enterInterrupt_eq]
@[simp] theorem State.enterInterrupt_irqLine : (s.enterInterrupt src).irqLine = s.irqLine := by
  rw [State.enterInterrupt_eq]
@[simp] theorem State.enterInterrupt_storageReady : (s.enterInterrupt src).storageReady = s.storageReady := by
  rw [State.enterInterrupt_eq]
@[simp] theorem State.enterInterrupt_params : (s.enterInterrupt src).params = s.params := by
  rw [State.enterInterrupt_eq]
@[simp] theorem State.enterInterrupt_drawIndex : (s.enterInterrupt src).drawIndex = s.drawIndex := by
  rw [State.enterInterrupt_eq]
@[simp] theorem State.enterInterrupt_p : (s.enterInterrupt src).p = { s.p with i := true } := by
  rw [State.enterInterrupt_eq]
end

/-- Everything a step that answers a next state can be: a running engine that takes an interrupt, or one that runs the
instruction it fetched. -/
theorem step_next_cases {s t : State} (h : step s = .next t) :
    s.engine = .running ∧
      ((∃ src, s.sampleInputs.interruptDue = some src ∧ t = s.sampleInputs.enterInterrupt src) ∨
       (s.sampleInputs.interruptDue = none ∧
        ∃ i, decode s.sampleInputs.fetch.1 = .ok i ∧ exec i s.sampleInputs.fetch.2 = .next t)) := by
  unfold step State.plan at h
  cases he : s.engine with
  | unpowered => rw [he] at h; cases h
  | halted k => rw [he] at h; cases h
  | running =>
    simp only [he, State.runningPlan] at h
    refine ⟨rfl, ?_⟩
    cases hd : s.sampleInputs.interruptDue with
    | some src =>
      simp only [hd] at h
      cases h
      exact .inl ⟨src, rfl, rfl⟩
    | none =>
      simp only [hd, State.fetchPlan] at h
      cases hc : decode s.sampleInputs.fetch.1 with
      | error k => simp only [hc] at h; cases h
      | ok i =>
        simp only [hc] at h
        exact .inr ⟨rfl, i, rfl, h⟩

end Sys2Proof.Machine
end

