-- ==== Sys2Proof/Laws/Exec.lean ====
section
/-! SUPPORT. What exec does with each mnemonic, over all the addressing modes it has: one equation for all 151
constructors, which a proof about a mnemonic rewrites with instead of going through the constructors again. -/

namespace Sys2Proof.Machine

/-- exec, mnemonic by mnemonic. -/
def execByMnemonic (i : Instr) (s : State) : Host.Outcome State Fault Refusal :=
  match i.mnemonic with
  | .adc => .next (s.registerForm i.mode i.operand opAdc)
  | .sbc => .next (s.registerForm i.mode i.operand opSbc)
  | .cmp => .next (s.registerForm i.mode i.operand opCmp)
  | .cpx => .next (s.registerForm i.mode i.operand opCpx)
  | .cpy => .next (s.registerForm i.mode i.operand opCpy)
  | .and => .next (s.registerForm i.mode i.operand opAnd)
  | .ora => .next (s.registerForm i.mode i.operand opOra)
  | .eor => .next (s.registerForm i.mode i.operand opEor)
  | .bit => .next (s.registerForm i.mode i.operand opBit)
  | .lda => .next (s.registerForm i.mode i.operand opLda)
  | .ldx => .next (s.registerForm i.mode i.operand opLdx)
  | .ldy => .next (s.registerForm i.mode i.operand opLdy)
  | .inc => .next (s.memoryForm i.mode i.operand opInc)
  | .dec => .next (s.memoryForm i.mode i.operand opDec)
  | .asl => .next (if i.mode = .accumulator then s.accumulatorForm opAsl else s.memoryForm i.mode i.operand opAsl)
  | .lsr => .next (if i.mode = .accumulator then s.accumulatorForm opLsr else s.memoryForm i.mode i.operand opLsr)
  | .rol => .next (if i.mode = .accumulator then s.accumulatorForm opRol else s.memoryForm i.mode i.operand opRol)
  | .ror => .next (if i.mode = .accumulator then s.accumulatorForm opRor else s.memoryForm i.mode i.operand opRor)
  | .sta => .next (s.storeForm i.mode i.operand State.a)
  | .stx => .next (s.storeForm i.mode i.operand State.x)
  | .sty => .next (s.storeForm i.mode i.operand State.y)
  | .bcc => execBcc (loByte i.operand) s
  | .bcs => execBcs (loByte i.operand) s
  | .beq => execBeq (loByte i.operand) s
  | .bne => execBne (loByte i.operand) s
  | .bmi => execBmi (loByte i.operand) s
  | .bpl => execBpl (loByte i.operand) s
  | .bvc => execBvc (loByte i.operand) s
  | .bvs => execBvs (loByte i.operand) s
  | .jmp => if i.mode = .absolute then execJmpAbsolute i.operand s else execJmpIndirectAbsolute i.operand s
  | .jsr => execJsr i.operand s
  | .rts => execRts s
  | .brk => execBrk s
  | .rti => execRti s
  | .pha => execPha s
  | .php => execPhp s
  | .pla => execPla s
  | .plp => execPlp s
  | .tax => execTax s
  | .tay => execTay s
  | .txa => execTxa s
  | .tya => execTya s
  | .tsx => execTsx s
  | .txs => execTxs s
  | .inx => execInx s
  | .iny => execIny s
  | .dex => execDex s
  | .dey => execDey s
  | .clc => execClc s
  | .sec => execSec s
  | .cli => execCli s
  | .sei => execSei s
  | .cld => execCld s
  | .sed => execSed s
  | .clv => execClv s
  | .nop => execNop s

theorem exec_eq_byMnemonic (i : Instr) (s : State) : exec i s = execByMnemonic i s := by
  cases i <;> try rfl
  all_goals simp only [execByMnemonic, Instr.mnemonic, Instr.operand, loByte_zext]; rfl

/-- No instruction of Memory kind reads an immediate. -/
theorem Instr.mode_of_memory {i : Instr} (h : i.kind = .memory) : i.mode ≠ .accumulator ∧ i.mode ≠ .immediate := by
  cases i <;> simp_all [Instr.kind, Instr.mode]
theorem Instr.kind_of_mnemonic (i : Instr) :
    i.kind = match i.mnemonic with
      | .sta | .stx | .sty | .inc | .dec => .memory
      | .asl | .lsr | .rol | .ror => if i.mode = .accumulator then .register else .memory
      | .bcc | .bcs | .beq | .bne | .bmi | .bpl | .bvc | .bvs | .jmp | .jsr | .rts | .rti | .brk => .controlFlow
      | _ => .register := by
  cases i <;> rfl

/-- The Memory kind path writes memory, the flags, PC and the draw counter, nothing else. -/
theorem State.memoryForm_fields (s : State) {i : Instr} (h : i.kind = .memory) (w : Word)
    (op : Byte → State → Byte × State) (hop : ∀ m t, op m t = ((op m t).1, t.setP (op m t).2.p)) :
    s.memoryForm i.mode w op =
      { s with
        pc := (s.memoryForm i.mode w op).pc
        p := (s.memoryForm i.mode w op).p
        mem := (s.memoryForm i.mode w op).mem
        drawIndex := (s.memoryForm i.mode w op).drawIndex } := by
  obtain ⟨h1, h2⟩ := Instr.mode_of_memory h
  rw [State.memoryForm_eq s i.mode w h1 h2 op _ _ _ rfl (hop _ _)]
  rfl

/-- Every instruction completes, and it writes registers, flags, memory and the draw counter, nothing else. -/
theorem exec_fields (i : Instr) (s : State) : ∃ t, exec i s = .next t ∧
    t = { s with
      a := t.a, x := t.x, y := t.y, sp := t.sp, pc := t.pc, p := t.p, mem := t.mem, drawIndex := t.drawIndex } := by
  have hk := Instr.kind_of_mnemonic i
  rw [exec_eq_byMnemonic]
  unfold execByMnemonic
  cases hm : i.mnemonic <;> simp only [hm] at hk ⊢
  case adc | sbc | cmp | cpx | cpy | and | ora | eor | bit | lda | ldx | ldy =>
    exact ⟨_, rfl, by rw [State.registerForm_eq]; rfl⟩
  case inc | dec | sta | stx | sty =>
    refine ⟨_, rfl, ?_⟩
    try rw [State.storeForm]
    rw [State.memoryForm_fields s hk _ _ (fun _ _ => rfl)]
  case asl | lsr | rol | ror =>
    by_cases h : i.mode = .accumulator
    · simp only [h, if_true]; exact ⟨_, rfl, rfl⟩
    · rw [if_neg h] at hk
      simp only [h, if_false]
      exact ⟨_, rfl, by rw [State.memoryForm_fields s hk _ _ (fun _ _ => rfl)]⟩
  case jmp =>
    split
    · exact ⟨_, rfl, rfl⟩
    · exact ⟨_, rfl, by rw [State.resolve_state]; rfl⟩
  case jsr => exact ⟨_, rfl, by rw [State.pushWord_eq]; rfl⟩
  case rts => exact ⟨_, rfl, by rw [State.pullWord_eq]; rfl⟩
  case rti => exact ⟨_, rfl, by rw [State.returnFromTrap_eq]; rfl⟩
  case brk => exact ⟨_, rfl, by rw [State.takeTrap_eq _ _ _ _ (by decide) (by decide)]; rfl⟩
  case pha | php => exact ⟨_, rfl, by simp only [State.impliedForm]; rw [State.push_eq]; rfl⟩
  case pla => exact ⟨_, rfl, by simp only [State.impliedForm, opPla, State.pull_eq]; rfl⟩
  case plp => exact ⟨_, rfl, by simp only [State.impliedForm, opPlp, State.pull_eq]; rfl⟩
  all_goals exact ⟨_, rfl, rfl⟩

/-- A property of memory that every write to an address of `storesTo` keeps holds after the instruction. -/
theorem exec_mem {i : Instr} {s t : State} (h : exec i s = .next t) (P : Memory → Prop)
    (h0 : P s.mem) (hs : ∀ (u : State) a v, a ∈ storesTo i s → u.mode = s.mode → P u.mem → P (u.memWrite a v).mem) :
    P t.mem := by
  have hk := Instr.kind_of_mnemonic i
  rw [exec_eq_byMnemonic] at h
  unfold execByMnemonic at h
  unfold storesTo at hs
  have memf : ∀ op : Byte → State → Byte × State, (∀ m t, op m t = ((op m t).1, t.setP (op m t).2.p)) →
      i.kind = .memory → P (s.memoryForm i.mode i.operand op).mem := by
    intro op hop hk
    obtain ⟨h1, h2⟩ := Instr.mode_of_memory hk
    rw [State.memoryForm_eq s i.mode _ h1 h2 op _ _ _ rfl (hop _ _)]
    rw [hk] at hs
    exact hs s _ _ (List.mem_singleton.mpr rfl) rfl h0
  have hpush : ∀ (u : State) v, stackAddr u.sp ∈ storesTo i s → u.mode = s.mode → P u.mem → P (u.push v).mem := by
    intro u v h1 h2 h3; rw [State.push_eq]; exact hs u _ _ h1 h2 h3
  unfold storesTo at hpush
  cases hm : i.mnemonic <;> simp only [hm] at hk h hs hpush
  case adc | sbc | cmp | cpx | cpy | and | ora | eor | bit | lda | ldx | ldy =>
    cases h; rw [State.registerForm_eq]; exact h0
  case inc | dec | sta | stx | sty =>
    cases h
    try rw [State.storeForm]
    exact memf _ (fun _ _ => rfl) hk
  case asl | lsr | rol | ror =>
    by_cases h' : i.mode = .accumulator
    · simp only [h', if_true] at h; cases h; exact h0
    · rw [if_neg h'] at hk
      simp only [h', if_false] at h
      cases h; exact memf _ (fun _ _ => rfl) hk
  case jmp =>
    split at h
    · cases h; exact h0
    · cases h; rw [State.resolve_state]; exact h0
  case jsr =>
    cases h
    rw [hk] at hpush; simp only at hpush
    refine hpush _ _ ?_ ?_ (hpush _ _ ?_ ?_ ?_)
    · simp
    · rw [State.push_eq]; rfl
    · simp
    · rfl
    · exact h0
  case rts => cases h; rw [State.pullWord_eq]; exact h0
  case rti => cases h; rw [State.returnFromTrap_eq]; exact h0
  case brk =>
    cases h
    rw [State.takeTrap_eq _ _ _ _ (by decide) (by decide)]
    rw [hk] at hpush; simp only at hpush
    refine hpush _ _ ?_ ?_ (hpush _ _ ?_ ?_ (hpush _ _ ?_ ?_ ?_))
    · have : s.sp - 1#8 - 1#8 = s.sp - 2#8 := by bv_omega
      simp [State.pushWord, this]
    · rw [State.pushWord_eq]; rfl
    · simp
    · rw [State.push_eq]; rfl
    · simp
    · rfl
    · exact h0
  case pha | php =>
    cases h
    rw [hk] at hpush; simp only at hpush
    exact hpush _ _ (by simp) rfl h0
  case pla => cases h; simp only [State.impliedForm, opPla, State.pull_eq]; exact h0
  case plp => cases h; simp only [State.impliedForm, opPlp, State.pull_eq]; exact h0
  all_goals (cases h; exact h0)

/-- Every instruction keeps the canonical form of memory. -/
theorem exec_wf {i : Instr} {s t : State} (h : exec i s = .next t) (hw : Memory.wf s.mem = true) :
    Memory.wf t.mem = true :=
  exec_mem h (fun m => Memory.wf m = true) hw (fun u a v _ _ hu => State.memWrite_wf u a v hu)

/-- PLP and RTI keep U and B (44_stack.md R213). -/
theorem Status.restore_keeps (p : Status) (q : Byte) : (p.restore q).u = p.u ∧ (p.restore q).b = p.b := by
  rw [Status.restore_eq]; exact ⟨rfl, rfl⟩

/-- No instruction writes U, and none clears the stored B. -/
theorem exec_keeps_u_b {i : Instr} {s t : State} (h : exec i s = .next t) :
    t.p.u = s.p.u ∧ (s.p.b = true → t.p.b = true) := by
  have hk := Instr.kind_of_mnemonic i
  rw [exec_eq_byMnemonic] at h
  unfold execByMnemonic at h
  have memf : ∀ op : Byte → State → Byte × State, (∀ m t, op m t = ((op m t).1, t.setP (op m t).2.p)) →
      (∀ m t, (op m t).2.p.u = t.p.u ∧ (op m t).2.p.b = t.p.b) → i.kind = .memory →
      (s.memoryForm i.mode i.operand op).p.u = s.p.u ∧
        (s.p.b = true → (s.memoryForm i.mode i.operand op).p.b = true) := by
    intro op hop hop2 hk
    obtain ⟨h1, h2⟩ := Instr.mode_of_memory hk
    rw [State.memoryForm_eq s i.mode _ h1 h2 op _ _ _ rfl (hop _ _)]
    have := hop2 (s.operandValue i.mode i.operand) (s.setDrawIndex (s.operandRead i.mode i.operand).2.drawIndex)
    refine ⟨this.1, fun hb => ?_⟩
    exact this.2.trans hb
  cases hm : i.mnemonic <;> simp only [hm] at hk h
  case adc | sbc | cmp | cpx | cpy | and | ora | eor | bit | lda | ldx | ldy =>
    cases h; rw [State.registerForm_eq]; exact ⟨rfl, id⟩
  case inc | dec | sta | stx | sty =>
    cases h
    try rw [State.storeForm]
    exact memf _ (fun _ _ => rfl) (fun _ _ => ⟨rfl, rfl⟩) hk
  case asl | lsr | rol | ror =>
    by_cases h' : i.mode = .accumulator
    · simp only [h', if_true] at h; cases h; exact ⟨rfl, id⟩
    · rw [if_neg h'] at hk
      simp only [h', if_false] at h
      cases h; exact memf _ (fun _ _ => rfl) (fun _ _ => ⟨rfl, rfl⟩) hk
  case jmp =>
    split at h
    · cases h; exact ⟨rfl, id⟩
    · cases h; rw [State.resolve_state]; exact ⟨rfl, id⟩
  case jsr => cases h; rw [State.pushWord_eq]; exact ⟨rfl, id⟩
  case rts => cases h; rw [State.pullWord_eq]; exact ⟨rfl, id⟩
  case rti =>
    cases h
    rw [State.returnFromTrap_eq]
    simp only [State.setPc_p, State.setSp_p, State.setP_p, Status.restore_keeps]
    exact ⟨trivial, id⟩
  case brk => cases h; rw [State.takeTrap_eq _ _ _ _ (by decide) (by decide)]; exact ⟨rfl, fun _ => rfl⟩
  case pha | php => cases h; simp only [State.impliedForm]; rw [State.push_eq]; exact ⟨rfl, id⟩
  case pla => cases h; simp only [State.impliedForm, opPla, State.pull_eq]; exact ⟨rfl, id⟩
  case plp =>
    cases h
    simp only [State.impliedForm, opPlp, State.pull_eq]
    simp only [State.advance, State.setPc_p, State.setSp_p, State.setP_p, Status.restore_keeps]
    exact ⟨trivial, id⟩
  all_goals (cases h; exact ⟨rfl, id⟩)

end Sys2Proof.Machine
end

