-- ==== Sys2Proof/Laws/PerInstr.lean ====
section
/-! SUPPORT. The per-instruction family DescriptionWellFormed: every instruction's description is well-formed, and its
encoding has the length its mode gives (30_encoding.md R82, R84). -/

/-- The description of the instruction is well-formed and its encoding has the instruction's length. -/
def Sys2Proof.Laws.DescriptionWellFormed.Statement (i : Sys2Proof.Instr) : Prop :=
  i.wf = true ∧ (Sys2Proof.encode i).length = i.length

namespace Sys2Proof.Laws.DescriptionWellFormed

/-- A zero-extended byte fits one operand byte. -/
theorem zext_fits (b : Byte) : (zext b).toNat < 256 := by
  have := b.isLt
  simp only [zext, BitVec.toNat_setWidth]
  omega

/-- The operand of an instruction fits its operand bytes. -/
theorem operand_fits (i : Instr) : i.operand.toNat < 256 ^ (i.length - 1) := by
  cases i <;> first
    | exact Nat.lt_one_iff.mpr rfl
    | exact zext_fits _
    | exact BitVec.isLt _

/-- The description of every instruction is well-formed, by its dispatch slot. -/
theorem wf_true (i : Instr) : i.wf = true := by
  obtain ⟨e, he, -, hm, -⟩ := dispatch_opcode i
  simp only [Instr.wf, InstructionDescription.wf, InstructionDescription.populated, InstructionDescription.sizeFits,
    InstructionDescription.operandFits, Instr.describe, instructionWidth, he, Instr.length, hm]
  simp only [Option.isSome_some, beq_self_eq_true, Bool.and_self, Bool.true_and]
  exact decide_eq_true (operand_fits i)

theorem adcImmediate (m : Byte) : Statement (.adcImmediate m) := ⟨wf_true _, rfl⟩
theorem adcZeroPage (zp : Byte) : Statement (.adcZeroPage zp) := ⟨wf_true _, rfl⟩
theorem adcZeroPageX (zp : Byte) : Statement (.adcZeroPageX zp) := ⟨wf_true _, rfl⟩
theorem adcAbsolute (addr : Word) : Statement (.adcAbsolute addr) := ⟨wf_true _, rfl⟩
theorem adcAbsoluteX (base : Word) : Statement (.adcAbsoluteX base) := ⟨wf_true _, rfl⟩
theorem adcAbsoluteY (base : Word) : Statement (.adcAbsoluteY base) := ⟨wf_true _, rfl⟩
theorem adcIndexedIndirectDPX (zp : Byte) : Statement (.adcIndexedIndirectDPX zp) := ⟨wf_true _, rfl⟩
theorem adcIndirectIndexedDPY (zp : Byte) : Statement (.adcIndirectIndexedDPY zp) := ⟨wf_true _, rfl⟩
theorem sbcImmediate (m : Byte) : Statement (.sbcImmediate m) := ⟨wf_true _, rfl⟩
theorem sbcZeroPage (zp : Byte) : Statement (.sbcZeroPage zp) := ⟨wf_true _, rfl⟩
theorem sbcZeroPageX (zp : Byte) : Statement (.sbcZeroPageX zp) := ⟨wf_true _, rfl⟩
theorem sbcAbsolute (addr : Word) : Statement (.sbcAbsolute addr) := ⟨wf_true _, rfl⟩
theorem sbcAbsoluteX (base : Word) : Statement (.sbcAbsoluteX base) := ⟨wf_true _, rfl⟩
theorem sbcAbsoluteY (base : Word) : Statement (.sbcAbsoluteY base) := ⟨wf_true _, rfl⟩
theorem sbcIndexedIndirectDPX (zp : Byte) : Statement (.sbcIndexedIndirectDPX zp) := ⟨wf_true _, rfl⟩
theorem sbcIndirectIndexedDPY (zp : Byte) : Statement (.sbcIndirectIndexedDPY zp) := ⟨wf_true _, rfl⟩
theorem cmpImmediate (m : Byte) : Statement (.cmpImmediate m) := ⟨wf_true _, rfl⟩
theorem cmpZeroPage (zp : Byte) : Statement (.cmpZeroPage zp) := ⟨wf_true _, rfl⟩
theorem cmpZeroPageX (zp : Byte) : Statement (.cmpZeroPageX zp) := ⟨wf_true _, rfl⟩
theorem cmpAbsolute (addr : Word) : Statement (.cmpAbsolute addr) := ⟨wf_true _, rfl⟩
theorem cmpAbsoluteX (base : Word) : Statement (.cmpAbsoluteX base) := ⟨wf_true _, rfl⟩
theorem cmpAbsoluteY (base : Word) : Statement (.cmpAbsoluteY base) := ⟨wf_true _, rfl⟩
theorem cmpIndexedIndirectDPX (zp : Byte) : Statement (.cmpIndexedIndirectDPX zp) := ⟨wf_true _, rfl⟩
theorem cmpIndirectIndexedDPY (zp : Byte) : Statement (.cmpIndirectIndexedDPY zp) := ⟨wf_true _, rfl⟩
theorem cpxImmediate (m : Byte) : Statement (.cpxImmediate m) := ⟨wf_true _, rfl⟩
theorem cpxZeroPage (zp : Byte) : Statement (.cpxZeroPage zp) := ⟨wf_true _, rfl⟩
theorem cpxAbsolute (addr : Word) : Statement (.cpxAbsolute addr) := ⟨wf_true _, rfl⟩
theorem cpyImmediate (m : Byte) : Statement (.cpyImmediate m) := ⟨wf_true _, rfl⟩
theorem cpyZeroPage (zp : Byte) : Statement (.cpyZeroPage zp) := ⟨wf_true _, rfl⟩
theorem cpyAbsolute (addr : Word) : Statement (.cpyAbsolute addr) := ⟨wf_true _, rfl⟩
theorem aslAccumulator : Statement (.aslAccumulator) := ⟨wf_true _, rfl⟩
theorem aslZeroPage (zp : Byte) : Statement (.aslZeroPage zp) := ⟨wf_true _, rfl⟩
theorem aslZeroPageX (zp : Byte) : Statement (.aslZeroPageX zp) := ⟨wf_true _, rfl⟩
theorem aslAbsolute (addr : Word) : Statement (.aslAbsolute addr) := ⟨wf_true _, rfl⟩
theorem aslAbsoluteX (base : Word) : Statement (.aslAbsoluteX base) := ⟨wf_true _, rfl⟩
theorem lsrAccumulator : Statement (.lsrAccumulator) := ⟨wf_true _, rfl⟩
theorem lsrZeroPage (zp : Byte) : Statement (.lsrZeroPage zp) := ⟨wf_true _, rfl⟩
theorem lsrZeroPageX (zp : Byte) : Statement (.lsrZeroPageX zp) := ⟨wf_true _, rfl⟩
theorem lsrAbsolute (addr : Word) : Statement (.lsrAbsolute addr) := ⟨wf_true _, rfl⟩
theorem lsrAbsoluteX (base : Word) : Statement (.lsrAbsoluteX base) := ⟨wf_true _, rfl⟩
theorem rolAccumulator : Statement (.rolAccumulator) := ⟨wf_true _, rfl⟩
theorem rolZeroPage (zp : Byte) : Statement (.rolZeroPage zp) := ⟨wf_true _, rfl⟩
theorem rolZeroPageX (zp : Byte) : Statement (.rolZeroPageX zp) := ⟨wf_true _, rfl⟩
theorem rolAbsolute (addr : Word) : Statement (.rolAbsolute addr) := ⟨wf_true _, rfl⟩
theorem rolAbsoluteX (base : Word) : Statement (.rolAbsoluteX base) := ⟨wf_true _, rfl⟩
theorem rorAccumulator : Statement (.rorAccumulator) := ⟨wf_true _, rfl⟩
theorem rorZeroPage (zp : Byte) : Statement (.rorZeroPage zp) := ⟨wf_true _, rfl⟩
theorem rorZeroPageX (zp : Byte) : Statement (.rorZeroPageX zp) := ⟨wf_true _, rfl⟩
theorem rorAbsolute (addr : Word) : Statement (.rorAbsolute addr) := ⟨wf_true _, rfl⟩
theorem rorAbsoluteX (base : Word) : Statement (.rorAbsoluteX base) := ⟨wf_true _, rfl⟩
theorem bcc (d : Byte) : Statement (.bcc d) := ⟨wf_true _, rfl⟩
theorem bcs (d : Byte) : Statement (.bcs d) := ⟨wf_true _, rfl⟩
theorem beq (d : Byte) : Statement (.beq d) := ⟨wf_true _, rfl⟩
theorem bne (d : Byte) : Statement (.bne d) := ⟨wf_true _, rfl⟩
theorem bmi (d : Byte) : Statement (.bmi d) := ⟨wf_true _, rfl⟩
theorem bpl (d : Byte) : Statement (.bpl d) := ⟨wf_true _, rfl⟩
theorem bvc (d : Byte) : Statement (.bvc d) := ⟨wf_true _, rfl⟩
theorem bvs (d : Byte) : Statement (.bvs d) := ⟨wf_true _, rfl⟩
theorem jmpAbsolute (addr : Word) : Statement (.jmpAbsolute addr) := ⟨wf_true _, rfl⟩
theorem jmpIndirectAbsolute (ptr : Word) : Statement (.jmpIndirectAbsolute ptr) := ⟨wf_true _, rfl⟩
theorem jsr (addr : Word) : Statement (.jsr addr) := ⟨wf_true _, rfl⟩
theorem rts : Statement (.rts) := ⟨wf_true _, rfl⟩
theorem brk : Statement (.brk) := ⟨wf_true _, rfl⟩
theorem rti : Statement (.rti) := ⟨wf_true _, rfl⟩
theorem pha : Statement (.pha) := ⟨wf_true _, rfl⟩
theorem php : Statement (.php) := ⟨wf_true _, rfl⟩
theorem pla : Statement (.pla) := ⟨wf_true _, rfl⟩
theorem plp : Statement (.plp) := ⟨wf_true _, rfl⟩
theorem ldaImmediate (m : Byte) : Statement (.ldaImmediate m) := ⟨wf_true _, rfl⟩
theorem ldaZeroPage (zp : Byte) : Statement (.ldaZeroPage zp) := ⟨wf_true _, rfl⟩
theorem ldaZeroPageX (zp : Byte) : Statement (.ldaZeroPageX zp) := ⟨wf_true _, rfl⟩
theorem ldaAbsolute (addr : Word) : Statement (.ldaAbsolute addr) := ⟨wf_true _, rfl⟩
theorem ldaAbsoluteX (base : Word) : Statement (.ldaAbsoluteX base) := ⟨wf_true _, rfl⟩
theorem ldaAbsoluteY (base : Word) : Statement (.ldaAbsoluteY base) := ⟨wf_true _, rfl⟩
theorem ldaIndexedIndirectDPX (zp : Byte) : Statement (.ldaIndexedIndirectDPX zp) := ⟨wf_true _, rfl⟩
theorem ldaIndirectIndexedDPY (zp : Byte) : Statement (.ldaIndirectIndexedDPY zp) := ⟨wf_true _, rfl⟩
theorem ldxImmediate (m : Byte) : Statement (.ldxImmediate m) := ⟨wf_true _, rfl⟩
theorem ldxZeroPage (zp : Byte) : Statement (.ldxZeroPage zp) := ⟨wf_true _, rfl⟩
theorem ldxZeroPageY (zp : Byte) : Statement (.ldxZeroPageY zp) := ⟨wf_true _, rfl⟩
theorem ldxAbsolute (addr : Word) : Statement (.ldxAbsolute addr) := ⟨wf_true _, rfl⟩
theorem ldxAbsoluteY (base : Word) : Statement (.ldxAbsoluteY base) := ⟨wf_true _, rfl⟩
theorem ldyImmediate (m : Byte) : Statement (.ldyImmediate m) := ⟨wf_true _, rfl⟩
theorem ldyZeroPage (zp : Byte) : Statement (.ldyZeroPage zp) := ⟨wf_true _, rfl⟩
theorem ldyZeroPageX (zp : Byte) : Statement (.ldyZeroPageX zp) := ⟨wf_true _, rfl⟩
theorem ldyAbsolute (addr : Word) : Statement (.ldyAbsolute addr) := ⟨wf_true _, rfl⟩
theorem ldyAbsoluteX (base : Word) : Statement (.ldyAbsoluteX base) := ⟨wf_true _, rfl⟩
theorem staZeroPage (zp : Byte) : Statement (.staZeroPage zp) := ⟨wf_true _, rfl⟩
theorem staZeroPageX (zp : Byte) : Statement (.staZeroPageX zp) := ⟨wf_true _, rfl⟩
theorem staAbsolute (addr : Word) : Statement (.staAbsolute addr) := ⟨wf_true _, rfl⟩
theorem staAbsoluteX (base : Word) : Statement (.staAbsoluteX base) := ⟨wf_true _, rfl⟩
theorem staAbsoluteY (base : Word) : Statement (.staAbsoluteY base) := ⟨wf_true _, rfl⟩
theorem staIndexedIndirectDPX (zp : Byte) : Statement (.staIndexedIndirectDPX zp) := ⟨wf_true _, rfl⟩
theorem staIndirectIndexedDPY (zp : Byte) : Statement (.staIndirectIndexedDPY zp) := ⟨wf_true _, rfl⟩
theorem stxZeroPage (zp : Byte) : Statement (.stxZeroPage zp) := ⟨wf_true _, rfl⟩
theorem stxZeroPageY (zp : Byte) : Statement (.stxZeroPageY zp) := ⟨wf_true _, rfl⟩
theorem stxAbsolute (addr : Word) : Statement (.stxAbsolute addr) := ⟨wf_true _, rfl⟩
theorem styZeroPage (zp : Byte) : Statement (.styZeroPage zp) := ⟨wf_true _, rfl⟩
theorem styZeroPageX (zp : Byte) : Statement (.styZeroPageX zp) := ⟨wf_true _, rfl⟩
theorem styAbsolute (addr : Word) : Statement (.styAbsolute addr) := ⟨wf_true _, rfl⟩
theorem tax : Statement (.tax) := ⟨wf_true _, rfl⟩
theorem tay : Statement (.tay) := ⟨wf_true _, rfl⟩
theorem txa : Statement (.txa) := ⟨wf_true _, rfl⟩
theorem tya : Statement (.tya) := ⟨wf_true _, rfl⟩
theorem tsx : Statement (.tsx) := ⟨wf_true _, rfl⟩
theorem txs : Statement (.txs) := ⟨wf_true _, rfl⟩
theorem andImmediate (m : Byte) : Statement (.andImmediate m) := ⟨wf_true _, rfl⟩
theorem andZeroPage (zp : Byte) : Statement (.andZeroPage zp) := ⟨wf_true _, rfl⟩
theorem andZeroPageX (zp : Byte) : Statement (.andZeroPageX zp) := ⟨wf_true _, rfl⟩
theorem andAbsolute (addr : Word) : Statement (.andAbsolute addr) := ⟨wf_true _, rfl⟩
theorem andAbsoluteX (base : Word) : Statement (.andAbsoluteX base) := ⟨wf_true _, rfl⟩
theorem andAbsoluteY (base : Word) : Statement (.andAbsoluteY base) := ⟨wf_true _, rfl⟩
theorem andIndexedIndirectDPX (zp : Byte) : Statement (.andIndexedIndirectDPX zp) := ⟨wf_true _, rfl⟩
theorem andIndirectIndexedDPY (zp : Byte) : Statement (.andIndirectIndexedDPY zp) := ⟨wf_true _, rfl⟩
theorem oraImmediate (m : Byte) : Statement (.oraImmediate m) := ⟨wf_true _, rfl⟩
theorem oraZeroPage (zp : Byte) : Statement (.oraZeroPage zp) := ⟨wf_true _, rfl⟩
theorem oraZeroPageX (zp : Byte) : Statement (.oraZeroPageX zp) := ⟨wf_true _, rfl⟩
theorem oraAbsolute (addr : Word) : Statement (.oraAbsolute addr) := ⟨wf_true _, rfl⟩
theorem oraAbsoluteX (base : Word) : Statement (.oraAbsoluteX base) := ⟨wf_true _, rfl⟩
theorem oraAbsoluteY (base : Word) : Statement (.oraAbsoluteY base) := ⟨wf_true _, rfl⟩
theorem oraIndexedIndirectDPX (zp : Byte) : Statement (.oraIndexedIndirectDPX zp) := ⟨wf_true _, rfl⟩
theorem oraIndirectIndexedDPY (zp : Byte) : Statement (.oraIndirectIndexedDPY zp) := ⟨wf_true _, rfl⟩
theorem eorImmediate (m : Byte) : Statement (.eorImmediate m) := ⟨wf_true _, rfl⟩
theorem eorZeroPage (zp : Byte) : Statement (.eorZeroPage zp) := ⟨wf_true _, rfl⟩
theorem eorZeroPageX (zp : Byte) : Statement (.eorZeroPageX zp) := ⟨wf_true _, rfl⟩
theorem eorAbsolute (addr : Word) : Statement (.eorAbsolute addr) := ⟨wf_true _, rfl⟩
theorem eorAbsoluteX (base : Word) : Statement (.eorAbsoluteX base) := ⟨wf_true _, rfl⟩
theorem eorAbsoluteY (base : Word) : Statement (.eorAbsoluteY base) := ⟨wf_true _, rfl⟩
theorem eorIndexedIndirectDPX (zp : Byte) : Statement (.eorIndexedIndirectDPX zp) := ⟨wf_true _, rfl⟩
theorem eorIndirectIndexedDPY (zp : Byte) : Statement (.eorIndirectIndexedDPY zp) := ⟨wf_true _, rfl⟩
theorem bitZeroPage (zp : Byte) : Statement (.bitZeroPage zp) := ⟨wf_true _, rfl⟩
theorem bitAbsolute (addr : Word) : Statement (.bitAbsolute addr) := ⟨wf_true _, rfl⟩
theorem incZeroPage (zp : Byte) : Statement (.incZeroPage zp) := ⟨wf_true _, rfl⟩
theorem incZeroPageX (zp : Byte) : Statement (.incZeroPageX zp) := ⟨wf_true _, rfl⟩
theorem incAbsolute (addr : Word) : Statement (.incAbsolute addr) := ⟨wf_true _, rfl⟩
theorem incAbsoluteX (base : Word) : Statement (.incAbsoluteX base) := ⟨wf_true _, rfl⟩
theorem decZeroPage (zp : Byte) : Statement (.decZeroPage zp) := ⟨wf_true _, rfl⟩
theorem decZeroPageX (zp : Byte) : Statement (.decZeroPageX zp) := ⟨wf_true _, rfl⟩
theorem decAbsolute (addr : Word) : Statement (.decAbsolute addr) := ⟨wf_true _, rfl⟩
theorem decAbsoluteX (base : Word) : Statement (.decAbsoluteX base) := ⟨wf_true _, rfl⟩
theorem inx : Statement (.inx) := ⟨wf_true _, rfl⟩
theorem iny : Statement (.iny) := ⟨wf_true _, rfl⟩
theorem dex : Statement (.dex) := ⟨wf_true _, rfl⟩
theorem dey : Statement (.dey) := ⟨wf_true _, rfl⟩
theorem clc : Statement (.clc) := ⟨wf_true _, rfl⟩
theorem sec : Statement (.sec) := ⟨wf_true _, rfl⟩
theorem cli : Statement (.cli) := ⟨wf_true _, rfl⟩
theorem sei : Statement (.sei) := ⟨wf_true _, rfl⟩
theorem cld : Statement (.cld) := ⟨wf_true _, rfl⟩
theorem sed : Statement (.sed) := ⟨wf_true _, rfl⟩
theorem clv : Statement (.clv) := ⟨wf_true _, rfl⟩
theorem nop : Statement (.nop) := ⟨wf_true _, rfl⟩

end Sys2Proof.Laws.DescriptionWellFormed
end

