-- ==== Sys2Proof/Laws/Run.lean ====
section
/-! SUPPORT. What running to a halt can do, one step at a time, and the state a host finds after an outcome. -/

namespace Sys2Proof.Machine

variable (s : State)

@[simp] theorem stateAfter_next (t : State) : stateAfter s (.next t) = t := rfl
@[simp] theorem stateAfter_halted (k : DecodeError) (t : State) : stateAfter s (.fault (.halted k t)) = t := rfl
@[simp] theorem stateAfter_notPoweredOn : stateAfter s (.fault .notPoweredOn) = s := rfl

@[simp] theorem State.run_zero : s.run 0 = .next s := rfl

/-- A run whose first step completes goes on from there. -/
theorem State.run_of_next {t : State} (h : step s = .next t) (n : Nat) : s.run (n + 1) = t.run n := by
  simp only [State.run, h]

/-- A run whose first step stops is that stop. -/
theorem State.run_of_fault {f : Fault} (h : step s = .fault f) (n : Nat) : s.run (n + 1) = .fault f := by
  simp only [State.run, h]

/-- A run of one step is the step. -/
theorem State.run_one : s.run 1 = step s := by
  simp only [State.run]
  cases step s <;> rfl

/-- A longer run goes on where a shorter one ended, or keeps its stop. -/
theorem State.run_add (m n : Nat) :
    s.run (m + n) =
      match s.run m with
      | .next t => t.run n
      | .fault f => .fault f
      | .refused r => .refused r := by
  induction m generalizing s with
  | zero => simp
  | succ m ih =>
    rw [Nat.succ_add]
    simp only [State.run]
    cases step s with
    | next t => exact ih t
    | fault f => rfl
    | refused r => rfl

end Sys2Proof.Machine
end

