-- ==== Sys2Proof/Tests/Slice0.lean ====
section
/-! SUPPORT. The model's own tests: ill-formed terms, words written out from the opcode map (30_encoding.md R91), one step
each from the test vectors (95_test_vectors.md), and a witness for the hypotheses of each obligation. -/

namespace Sys2Proof.Tests

open Sys2Proof Sys2Proof.Machine Sys2Proof.Config

/-! One theorem after another: run side by side, their kernel evaluations need more threads than the memory limit allows. -/
set_option Elab.async false

/-! ### Well-formedness: an ill-formed description for each check -/

/-- 0x02 has no dispatch entry (R88). -/
theorem test_wf_refuses_unpopulated :
    (InstructionDescription.mk 0x02#8 1 0#16).populated = false ∧
      (InstructionDescription.mk 0x02#8 1 0#16).wf = false := by decide

/-- LDA # is two bytes long (R82). -/
theorem test_wf_refuses_size :
    (InstructionDescription.mk 0xA9#8 3 0x05#16).sizeFits = false ∧
      (InstructionDescription.mk 0xA9#8 3 0x05#16).wf = false := by decide

/-- LDA # has an operand of one byte, NOP has none (R83). -/
theorem test_wf_refuses_operand :
    (InstructionDescription.mk 0xA9#8 2 0x100#16).operandFits = false ∧
      (InstructionDescription.mk 0xA9#8 2 0x100#16).wf = false ∧
      (InstructionDescription.mk 0xEA#8 1 0x01#16).operandFits = false ∧
      (InstructionDescription.mk 0xEA#8 1 0x01#16).wf = false := by decide

/-- The widest operands that fit. -/
theorem test_wf_accepts :
    (InstructionDescription.mk 0xEA#8 1 0#16).wf = true ∧ (InstructionDescription.mk 0xA9#8 2 0xFF#16).wf = true ∧
      (InstructionDescription.mk 0xAD#8 3 0xFFFF#16).wf = true := by decide

/-! ### Words written out from the opcode map (R91) -/

theorem test_decode_adc :
    decode [0b01100001#8, 0x9C#8] = .ok (.adcIndexedIndirectDPX 0x9C#8) ∧
      decode [0b01100101#8, 0x9C#8] = .ok (.adcZeroPage 0x9C#8) ∧
      decode [0b01101001#8, 0x9C#8] = .ok (.adcImmediate 0x9C#8) ∧
      decode [0b01101101#8, 0x7A#8, 0xB3#8] = .ok (.adcAbsolute 0xB37A#16) ∧
      decode [0b01110001#8, 0x9C#8] = .ok (.adcIndirectIndexedDPY 0x9C#8) ∧
      decode [0b01110101#8, 0x9C#8] = .ok (.adcZeroPageX 0x9C#8) ∧
      decode [0b01111001#8, 0x7A#8, 0xB3#8] = .ok (.adcAbsoluteY 0xB37A#16) ∧
      decode [0b01111101#8, 0x7A#8, 0xB3#8] = .ok (.adcAbsoluteX 0xB37A#16) := by decide

theorem test_decode_and :
    decode [0b00100001#8, 0x9C#8] = .ok (.andIndexedIndirectDPX 0x9C#8) ∧
      decode [0b00100101#8, 0x9C#8] = .ok (.andZeroPage 0x9C#8) ∧
      decode [0b00101001#8, 0x9C#8] = .ok (.andImmediate 0x9C#8) ∧
      decode [0b00101101#8, 0x7A#8, 0xB3#8] = .ok (.andAbsolute 0xB37A#16) ∧
      decode [0b00110001#8, 0x9C#8] = .ok (.andIndirectIndexedDPY 0x9C#8) ∧
      decode [0b00110101#8, 0x9C#8] = .ok (.andZeroPageX 0x9C#8) ∧
      decode [0b00111001#8, 0x7A#8, 0xB3#8] = .ok (.andAbsoluteY 0xB37A#16) ∧
      decode [0b00111101#8, 0x7A#8, 0xB3#8] = .ok (.andAbsoluteX 0xB37A#16) := by decide

theorem test_decode_asl :
    decode [0b00000110#8, 0x9C#8] = .ok (.aslZeroPage 0x9C#8) ∧
      decode [0b00001010#8] = .ok .aslAccumulator ∧
      decode [0b00001110#8, 0x7A#8, 0xB3#8] = .ok (.aslAbsolute 0xB37A#16) ∧
      decode [0b00010110#8, 0x9C#8] = .ok (.aslZeroPageX 0x9C#8) ∧
      decode [0b00011110#8, 0x7A#8, 0xB3#8] = .ok (.aslAbsoluteX 0xB37A#16) := by decide

theorem test_decode_bit :
    decode [0b00100100#8, 0x9C#8] = .ok (.bitZeroPage 0x9C#8) ∧
      decode [0b00101100#8, 0x7A#8, 0xB3#8] = .ok (.bitAbsolute 0xB37A#16) := by decide

theorem test_decode_cmp :
    decode [0b11000001#8, 0x9C#8] = .ok (.cmpIndexedIndirectDPX 0x9C#8) ∧
      decode [0b11000101#8, 0x9C#8] = .ok (.cmpZeroPage 0x9C#8) ∧
      decode [0b11001001#8, 0x9C#8] = .ok (.cmpImmediate 0x9C#8) ∧
      decode [0b11001101#8, 0x7A#8, 0xB3#8] = .ok (.cmpAbsolute 0xB37A#16) ∧
      decode [0b11010001#8, 0x9C#8] = .ok (.cmpIndirectIndexedDPY 0x9C#8) ∧
      decode [0b11010101#8, 0x9C#8] = .ok (.cmpZeroPageX 0x9C#8) ∧
      decode [0b11011001#8, 0x7A#8, 0xB3#8] = .ok (.cmpAbsoluteY 0xB37A#16) ∧
      decode [0b11011101#8, 0x7A#8, 0xB3#8] = .ok (.cmpAbsoluteX 0xB37A#16) := by decide

theorem test_decode_cpx :
    decode [0b11100000#8, 0x9C#8] = .ok (.cpxImmediate 0x9C#8) ∧
      decode [0b11100100#8, 0x9C#8] = .ok (.cpxZeroPage 0x9C#8) ∧
      decode [0b11101100#8, 0x7A#8, 0xB3#8] = .ok (.cpxAbsolute 0xB37A#16) := by decide

theorem test_decode_cpy :
    decode [0b11000000#8, 0x9C#8] = .ok (.cpyImmediate 0x9C#8) ∧
      decode [0b11000100#8, 0x9C#8] = .ok (.cpyZeroPage 0x9C#8) ∧
      decode [0b11001100#8, 0x7A#8, 0xB3#8] = .ok (.cpyAbsolute 0xB37A#16) := by decide

theorem test_decode_dec :
    decode [0b11000110#8, 0x9C#8] = .ok (.decZeroPage 0x9C#8) ∧
      decode [0b11001110#8, 0x7A#8, 0xB3#8] = .ok (.decAbsolute 0xB37A#16) ∧
      decode [0b11010110#8, 0x9C#8] = .ok (.decZeroPageX 0x9C#8) ∧
      decode [0b11011110#8, 0x7A#8, 0xB3#8] = .ok (.decAbsoluteX 0xB37A#16) := by decide

theorem test_decode_eor :
    decode [0b01000001#8, 0x9C#8] = .ok (.eorIndexedIndirectDPX 0x9C#8) ∧
      decode [0b01000101#8, 0x9C#8] = .ok (.eorZeroPage 0x9C#8) ∧
      decode [0b01001001#8, 0x9C#8] = .ok (.eorImmediate 0x9C#8) ∧
      decode [0b01001101#8, 0x7A#8, 0xB3#8] = .ok (.eorAbsolute 0xB37A#16) ∧
      decode [0b01010001#8, 0x9C#8] = .ok (.eorIndirectIndexedDPY 0x9C#8) ∧
      decode [0b01010101#8, 0x9C#8] = .ok (.eorZeroPageX 0x9C#8) ∧
      decode [0b01011001#8, 0x7A#8, 0xB3#8] = .ok (.eorAbsoluteY 0xB37A#16) ∧
      decode [0b01011101#8, 0x7A#8, 0xB3#8] = .ok (.eorAbsoluteX 0xB37A#16) := by decide

theorem test_decode_inc :
    decode [0b11100110#8, 0x9C#8] = .ok (.incZeroPage 0x9C#8) ∧
      decode [0b11101110#8, 0x7A#8, 0xB3#8] = .ok (.incAbsolute 0xB37A#16) ∧
      decode [0b11110110#8, 0x9C#8] = .ok (.incZeroPageX 0x9C#8) ∧
      decode [0b11111110#8, 0x7A#8, 0xB3#8] = .ok (.incAbsoluteX 0xB37A#16) := by decide

theorem test_decode_lda :
    decode [0b10100001#8, 0x9C#8] = .ok (.ldaIndexedIndirectDPX 0x9C#8) ∧
      decode [0b10100101#8, 0x9C#8] = .ok (.ldaZeroPage 0x9C#8) ∧
      decode [0b10101001#8, 0x9C#8] = .ok (.ldaImmediate 0x9C#8) ∧
      decode [0b10101101#8, 0x7A#8, 0xB3#8] = .ok (.ldaAbsolute 0xB37A#16) ∧
      decode [0b10110001#8, 0x9C#8] = .ok (.ldaIndirectIndexedDPY 0x9C#8) ∧
      decode [0b10110101#8, 0x9C#8] = .ok (.ldaZeroPageX 0x9C#8) ∧
      decode [0b10111001#8, 0x7A#8, 0xB3#8] = .ok (.ldaAbsoluteY 0xB37A#16) ∧
      decode [0b10111101#8, 0x7A#8, 0xB3#8] = .ok (.ldaAbsoluteX 0xB37A#16) := by decide

theorem test_decode_ldx :
    decode [0b10100010#8, 0x9C#8] = .ok (.ldxImmediate 0x9C#8) ∧
      decode [0b10100110#8, 0x9C#8] = .ok (.ldxZeroPage 0x9C#8) ∧
      decode [0b10101110#8, 0x7A#8, 0xB3#8] = .ok (.ldxAbsolute 0xB37A#16) ∧
      decode [0b10110110#8, 0x9C#8] = .ok (.ldxZeroPageY 0x9C#8) ∧
      decode [0b10111110#8, 0x7A#8, 0xB3#8] = .ok (.ldxAbsoluteY 0xB37A#16) := by decide

theorem test_decode_ldy :
    decode [0b10100000#8, 0x9C#8] = .ok (.ldyImmediate 0x9C#8) ∧
      decode [0b10100100#8, 0x9C#8] = .ok (.ldyZeroPage 0x9C#8) ∧
      decode [0b10101100#8, 0x7A#8, 0xB3#8] = .ok (.ldyAbsolute 0xB37A#16) ∧
      decode [0b10110100#8, 0x9C#8] = .ok (.ldyZeroPageX 0x9C#8) ∧
      decode [0b10111100#8, 0x7A#8, 0xB3#8] = .ok (.ldyAbsoluteX 0xB37A#16) := by decide

theorem test_decode_lsr :
    decode [0b01000110#8, 0x9C#8] = .ok (.lsrZeroPage 0x9C#8) ∧
      decode [0b01001010#8] = .ok .lsrAccumulator ∧
      decode [0b01001110#8, 0x7A#8, 0xB3#8] = .ok (.lsrAbsolute 0xB37A#16) ∧
      decode [0b01010110#8, 0x9C#8] = .ok (.lsrZeroPageX 0x9C#8) ∧
      decode [0b01011110#8, 0x7A#8, 0xB3#8] = .ok (.lsrAbsoluteX 0xB37A#16) := by decide

theorem test_decode_ora :
    decode [0b00000001#8, 0x9C#8] = .ok (.oraIndexedIndirectDPX 0x9C#8) ∧
      decode [0b00000101#8, 0x9C#8] = .ok (.oraZeroPage 0x9C#8) ∧
      decode [0b00001001#8, 0x9C#8] = .ok (.oraImmediate 0x9C#8) ∧
      decode [0b00001101#8, 0x7A#8, 0xB3#8] = .ok (.oraAbsolute 0xB37A#16) ∧
      decode [0b00010001#8, 0x9C#8] = .ok (.oraIndirectIndexedDPY 0x9C#8) ∧
      decode [0b00010101#8, 0x9C#8] = .ok (.oraZeroPageX 0x9C#8) ∧
      decode [0b00011001#8, 0x7A#8, 0xB3#8] = .ok (.oraAbsoluteY 0xB37A#16) ∧
      decode [0b00011101#8, 0x7A#8, 0xB3#8] = .ok (.oraAbsoluteX 0xB37A#16) := by decide

theorem test_decode_rol :
    decode [0b00100110#8, 0x9C#8] = .ok (.rolZeroPage 0x9C#8) ∧
      decode [0b00101010#8] = .ok .rolAccumulator ∧
      decode [0b00101110#8, 0x7A#8, 0xB3#8] = .ok (.rolAbsolute 0xB37A#16) ∧
      decode [0b00110110#8, 0x9C#8] = .ok (.rolZeroPageX 0x9C#8) ∧
      decode [0b00111110#8, 0x7A#8, 0xB3#8] = .ok (.rolAbsoluteX 0xB37A#16) := by decide

theorem test_decode_ror :
    decode [0b01100110#8, 0x9C#8] = .ok (.rorZeroPage 0x9C#8) ∧
      decode [0b01101010#8] = .ok .rorAccumulator ∧
      decode [0b01101110#8, 0x7A#8, 0xB3#8] = .ok (.rorAbsolute 0xB37A#16) ∧
      decode [0b01110110#8, 0x9C#8] = .ok (.rorZeroPageX 0x9C#8) ∧
      decode [0b01111110#8, 0x7A#8, 0xB3#8] = .ok (.rorAbsoluteX 0xB37A#16) := by decide

theorem test_decode_sbc :
    decode [0b11100001#8, 0x9C#8] = .ok (.sbcIndexedIndirectDPX 0x9C#8) ∧
      decode [0b11100101#8, 0x9C#8] = .ok (.sbcZeroPage 0x9C#8) ∧
      decode [0b11101001#8, 0x9C#8] = .ok (.sbcImmediate 0x9C#8) ∧
      decode [0b11101101#8, 0x7A#8, 0xB3#8] = .ok (.sbcAbsolute 0xB37A#16) ∧
      decode [0b11110001#8, 0x9C#8] = .ok (.sbcIndirectIndexedDPY 0x9C#8) ∧
      decode [0b11110101#8, 0x9C#8] = .ok (.sbcZeroPageX 0x9C#8) ∧
      decode [0b11111001#8, 0x7A#8, 0xB3#8] = .ok (.sbcAbsoluteY 0xB37A#16) ∧
      decode [0b11111101#8, 0x7A#8, 0xB3#8] = .ok (.sbcAbsoluteX 0xB37A#16) := by decide

theorem test_decode_sta :
    decode [0b10000001#8, 0x9C#8] = .ok (.staIndexedIndirectDPX 0x9C#8) ∧
      decode [0b10000101#8, 0x9C#8] = .ok (.staZeroPage 0x9C#8) ∧
      decode [0b10001101#8, 0x7A#8, 0xB3#8] = .ok (.staAbsolute 0xB37A#16) ∧
      decode [0b10010001#8, 0x9C#8] = .ok (.staIndirectIndexedDPY 0x9C#8) ∧
      decode [0b10010101#8, 0x9C#8] = .ok (.staZeroPageX 0x9C#8) ∧
      decode [0b10011001#8, 0x7A#8, 0xB3#8] = .ok (.staAbsoluteY 0xB37A#16) ∧
      decode [0b10011101#8, 0x7A#8, 0xB3#8] = .ok (.staAbsoluteX 0xB37A#16) := by decide

theorem test_decode_stx :
    decode [0b10000110#8, 0x9C#8] = .ok (.stxZeroPage 0x9C#8) ∧
      decode [0b10001110#8, 0x7A#8, 0xB3#8] = .ok (.stxAbsolute 0xB37A#16) ∧
      decode [0b10010110#8, 0x9C#8] = .ok (.stxZeroPageY 0x9C#8) := by decide

theorem test_decode_sty :
    decode [0b10000100#8, 0x9C#8] = .ok (.styZeroPage 0x9C#8) ∧
      decode [0b10001100#8, 0x7A#8, 0xB3#8] = .ok (.styAbsolute 0xB37A#16) ∧
      decode [0b10010100#8, 0x9C#8] = .ok (.styZeroPageX 0x9C#8) := by decide

theorem test_decode_branches :
    decode [0b10010000#8, 0x9C#8] = .ok (.bcc 0x9C#8) ∧
      decode [0b10110000#8, 0x9C#8] = .ok (.bcs 0x9C#8) ∧
      decode [0b11110000#8, 0x9C#8] = .ok (.beq 0x9C#8) ∧
      decode [0b11010000#8, 0x9C#8] = .ok (.bne 0x9C#8) ∧
      decode [0b00110000#8, 0x9C#8] = .ok (.bmi 0x9C#8) ∧
      decode [0b00010000#8, 0x9C#8] = .ok (.bpl 0x9C#8) ∧
      decode [0b01010000#8, 0x9C#8] = .ok (.bvc 0x9C#8) ∧
      decode [0b01110000#8, 0x9C#8] = .ok (.bvs 0x9C#8) := by decide

theorem test_decode_jumps_and_returns :
    decode [0b01001100#8, 0x7A#8, 0xB3#8] = .ok (.jmpAbsolute 0xB37A#16) ∧
      decode [0b01101100#8, 0x7A#8, 0xB3#8] = .ok (.jmpIndirectAbsolute 0xB37A#16) ∧
      decode [0b00100000#8, 0x7A#8, 0xB3#8] = .ok (.jsr 0xB37A#16) ∧
      decode [0b01100000#8] = .ok .rts ∧
      decode [0b01000000#8] = .ok .rti ∧
      decode [0b00000000#8] = .ok .brk := by decide

theorem test_decode_stack :
    decode [0b01001000#8] = .ok .pha ∧
      decode [0b00001000#8] = .ok .php ∧
      decode [0b01101000#8] = .ok .pla ∧
      decode [0b00101000#8] = .ok .plp := by decide

theorem test_decode_transfers :
    decode [0b10101010#8] = .ok .tax ∧
      decode [0b10101000#8] = .ok .tay ∧
      decode [0b10001010#8] = .ok .txa ∧
      decode [0b10011000#8] = .ok .tya ∧
      decode [0b10111010#8] = .ok .tsx ∧
      decode [0b10011010#8] = .ok .txs := by decide

theorem test_decode_index_steps :
    decode [0b11101000#8] = .ok .inx ∧
      decode [0b11001000#8] = .ok .iny ∧
      decode [0b11001010#8] = .ok .dex ∧
      decode [0b10001000#8] = .ok .dey := by decide

theorem test_decode_flags_and_nop :
    decode [0b00011000#8] = .ok .clc ∧
      decode [0b00111000#8] = .ok .sec ∧
      decode [0b01011000#8] = .ok .cli ∧
      decode [0b01111000#8] = .ok .sei ∧
      decode [0b11011000#8] = .ok .cld ∧
      decode [0b11111000#8] = .ok .sed ∧
      decode [0b10111000#8] = .ok .clv ∧
      decode [0b11101010#8] = .ok .nop := by decide

/-- Vectors D1 to D15 (95_test_vectors.md). -/
theorem test_describe_vectors :
    Sys2Proof.describe [0xEA#8] = .ok ⟨0xEA#8, 1, 0#16⟩ ∧ Sys2Proof.describe [0xEA#8, 0x11#8, 0x22#8] = .ok ⟨0xEA#8, 1, 0#16⟩ ∧
      Sys2Proof.describe [0x0A#8] = .ok ⟨0x0A#8, 1, 0#16⟩ ∧ Sys2Proof.describe [0xA9#8, 0x05#8] = .ok ⟨0xA9#8, 2, 0x0005#16⟩ ∧
      Sys2Proof.describe [0xD0#8, 0xFE#8, 0x99#8] = .ok ⟨0xD0#8, 2, 0x00FE#16⟩ ∧
      Sys2Proof.describe [0xB1#8, 0x10#8] = .ok ⟨0xB1#8, 2, 0x0010#16⟩ ∧
      Sys2Proof.describe [0x4C#8, 0x34#8, 0x12#8] = .ok ⟨0x4C#8, 3, 0x1234#16⟩ ∧
      Sys2Proof.describe [0x6C#8, 0xFF#8, 0x30#8] = .ok ⟨0x6C#8, 3, 0x30FF#16⟩ ∧
      Sys2Proof.describe [0xAD#8, 0x00#8] = .error .truncatedBuffer ∧ Sys2Proof.describe [0x20#8] = .error .truncatedBuffer ∧
      Sys2Proof.describe [] = .error .truncatedBuffer ∧ Sys2Proof.describe [0x02#8] = .error .unknownOpcode ∧
      Sys2Proof.describe [0xFF#8, 0x00#8, 0x00#8] = .error .unknownOpcode ∧
      Sys2Proof.describe [0x89#8, 0x00#8] = .error .unknownOpcode ∧
      instructionWidth 0x00#8 = 1 ∧ instructionWidth 0x20#8 = 3 ∧ instructionWidth 0xD0#8 = 2 ∧
      instructionWidth 0x6C#8 = 3 ∧ instructionWidth 0x02#8 = 1 := by decide

/-- 151 populated opcodes (R88, R91). -/
theorem test_populated_count :
    ((List.range 256).filter (fun n => (dispatch (BitVec.ofNat 8 n)).isSome)).length = 151 := by decide +kernel

/-- The bits of JSR $1234 as spec/opcode_table.json numbers them, and of a word with no dispatch entry. -/
theorem test_decodeTableWord :
    decodeTableWord 24 0x123420 = some (.jsr 0x1234#16) ∧ decodeTableWord 8 0xEA = some .nop ∧
      decodeTableWord 8 0x20 = some (.jsr 0#16) ∧ decodeTableWord 8 0x02 = none := by decide

/-! ### One step each from the test vectors -/

/-- The common start state (95_test_vectors.md) at pc, with the code there and the Storage bytes listed. -/
def start (pc : Word) (code : List Byte) (cells : List (Word × Byte)) : State :=
  cells.foldl (fun s c => s.storageWrite c.1 c.2) ((State.reset.setPc pc).storageLoadBytes pc.toNat code)

/-- The step from s answers a next state of which f holds. -/
def steps (s : State) (f : State → Bool) : Bool :=
  match step s with
  | .next t => f t
  | .fault _ | .refused _ => false

/-- The step from s faults, and f holds of the fault. -/
def stops (s : State) (f : Fault → Bool) : Bool :=
  match step s with
  | .fault k => f k
  | .next _ | .refused _ => false

/-- A status byte as flags. -/
abbrev fl (b : Byte) : Status := Status.ofByte b

/-- The byte of Storage at an offset. -/
abbrev at_ (s : State) (o : Word) : Byte := s.storageRead o

/-- Vectors A1 to A7. -/
theorem test_step_adc :
    steps { start 0x8000#16 [0x69#8, 0x01#8] [] with a := 0x01#8 } (fun t => t.a == 0x02#8 && t.p.toByte == 0x34#8 && t.pc == 0x8002#16) = true ∧
      steps { start 0x8000#16 [0x69#8, 0xFF#8] [] with a := 0x01#8 } (fun t => t.a == 0x00#8 && t.p.toByte == 0x37#8) = true ∧
      steps { start 0x8000#16 [0x69#8, 0x01#8] [] with a := 0x7F#8 } (fun t => t.a == 0x80#8 && t.p.toByte == 0xF4#8) = true ∧
      steps { start 0x8000#16 [0x69#8, 0x80#8] [] with a := 0x80#8 } (fun t => t.a == 0x00#8 && t.p.toByte == 0x77#8) = true ∧
      steps { start 0x8000#16 [0x69#8, 0xFF#8] [] with a := 0xFF#8, p := fl 0x35#8 } (fun t => t.a == 0xFF#8 && t.p.toByte == 0xB5#8) = true ∧
      steps { start 0x8000#16 [0x69#8, 0x01#8] [] with a := 0x09#8, p := fl 0x3C#8 } (fun t => t.a == 0x0A#8 && t.p.toByte == 0x3C#8) = true ∧
      steps { start 0x8000#16 [0x65#8, 0x10#8] [(0x0010#16, 0x40#8)] with a := 0x40#8, p := fl 0x35#8 } (fun t => t.a == 0x81#8 && t.p.toByte == 0xF4#8) = true := by decide +kernel

/-- Vectors A8 to A13. -/
theorem test_step_sbc :
    steps { start 0x8000#16 [0xE9#8, 0xF0#8] [] with a := 0x50#8, p := fl 0x35#8 } (fun t => t.a == 0x60#8 && t.p.toByte == 0x34#8 && t.pc == 0x8002#16) = true ∧
      steps { start 0x8000#16 [0xE9#8, 0x00#8] [] with a := 0x00#8 } (fun t => t.a == 0xFF#8 && t.p.toByte == 0xB4#8) = true ∧
      steps { start 0x8000#16 [0xE9#8, 0x01#8] [] with a := 0x80#8, p := fl 0x35#8 } (fun t => t.a == 0x7F#8 && t.p.toByte == 0x75#8) = true ∧
      steps { start 0x8000#16 [0xE9#8, 0xFF#8] [] with a := 0x7F#8, p := fl 0x35#8 } (fun t => t.a == 0x80#8 && t.p.toByte == 0xF4#8) = true ∧
      steps { start 0x8000#16 [0xE9#8, 0x42#8] [] with a := 0x42#8, p := fl 0x35#8 } (fun t => t.a == 0x00#8 && t.p.toByte == 0x37#8) = true ∧
      steps { start 0x8000#16 [0xE9#8, 0x05#8] [] with a := 0x10#8 } (fun t => t.a == 0x0A#8 && t.p.toByte == 0x35#8) = true := by decide +kernel

/-- Vectors A14 to A17. -/
theorem test_step_cmp :
    steps { start 0x8000#16 [0xC9#8, 0x10#8] [] with a := 0x10#8 } (fun t => t.a == 0x10#8 && t.p.toByte == 0x37#8 && t.pc == 0x8002#16) = true ∧
      steps { start 0x8000#16 [0xC9#8, 0x20#8] [] with a := 0x10#8 } (fun t => t.p.toByte == 0xB4#8) = true ∧
      steps { start 0x8000#16 [0xC9#8, 0x01#8] [] with a := 0x80#8 } (fun t => t.p.toByte == 0x35#8) = true ∧
      steps { start 0x8000#16 [0xC9#8, 0xFF#8] [] with a := 0x00#8 } (fun t => t.p.toByte == 0x34#8) = true := by decide +kernel

/-- Vectors A18, A19. -/
theorem test_step_cpx_cpy :
    steps { start 0x8000#16 [0xE0#8, 0x00#8] [] with x := 0x00#8 } (fun t => t.p.toByte == 0x37#8 && t.pc == 0x8002#16) = true ∧
      steps { start 0x8000#16 [0xC0#8, 0x80#8] [] with y := 0x7F#8 } (fun t => t.p.toByte == 0xB4#8 && t.pc == 0x8002#16) = true := by decide +kernel

/-- Vectors B1, B2, B9. -/
theorem test_step_asl :
    steps { start 0x8000#16 [0x0A#8] [] with a := 0x80#8 } (fun t => t.a == 0x00#8 && t.p.toByte == 0x37#8 && t.pc == 0x8001#16) = true ∧
      steps { start 0x8000#16 [0x0A#8] [] with a := 0x41#8 } (fun t => t.a == 0x82#8 && t.p.toByte == 0xB4#8) = true ∧
      steps { start 0x8000#16 [0x16#8, 0xFF#8] [(0x0001#16, 0xC0#8)] with x := 0x02#8 } (fun t => at_ t 0x0001#16 == 0x80#8 && t.p.toByte == 0xB5#8 && t.pc == 0x8002#16) = true := by decide +kernel

/-- Vectors B3, B4. -/
theorem test_step_lsr :
    steps { start 0x8000#16 [0x4A#8] [] with a := 0x01#8 } (fun t => t.a == 0x00#8 && t.p.toByte == 0x37#8 && t.pc == 0x8001#16) = true ∧
      steps (start 0x8000#16 [0x46#8, 0x10#8] [(0x0010#16, 0xFF#8)]) (fun t => at_ t 0x0010#16 == 0x7F#8 && t.p.toByte == 0x35#8 && t.pc == 0x8002#16) = true := by decide +kernel

/-- Vectors B5, B6. -/
theorem test_step_rol :
    steps { start 0x8000#16 [0x2A#8] [] with a := 0x80#8, p := fl 0x35#8 } (fun t => t.a == 0x01#8 && t.p.toByte == 0x35#8 && t.pc == 0x8001#16) = true ∧
      steps { start 0x8000#16 [0x2A#8] [] with a := 0x7F#8, p := fl 0x35#8 } (fun t => t.a == 0xFF#8 && t.p.toByte == 0xB4#8) = true := by decide +kernel

/-- Vectors B7, B8. -/
theorem test_step_ror :
    steps { start 0x8000#16 [0x6A#8] [] with a := 0x01#8 } (fun t => t.a == 0x00#8 && t.p.toByte == 0x37#8 && t.pc == 0x8001#16) = true ∧
      steps { start 0x8000#16 [0x6E#8, 0x00#8, 0x03#8] [(0x0300#16, 0x02#8)] with p := fl 0x35#8 } (fun t => at_ t 0x0300#16 == 0x81#8 && t.p.toByte == 0xB4#8 && t.pc == 0x8003#16) = true := by decide +kernel

/-- Vectors F1, F3 to F5, F7, F9 to F12. -/
theorem test_step_branches_taken :
    steps (start 0x8000#16 [0xD0#8, 0xFE#8] []) (fun t => t.sp == 0xFD#8 && t.p.toByte == 0x34#8 && t.pc == 0x8000#16) = true ∧
      steps { start 0x8000#16 [0xF0#8, 0x05#8] [] with p := fl 0x36#8 } (fun t => t.pc == 0x8007#16) = true ∧
      steps (start 0x8000#16 [0x90#8, 0x80#8] []) (fun t => t.pc == 0x7F82#16) = true ∧
      steps { start 0x8000#16 [0xB0#8, 0x7F#8] [] with p := fl 0x35#8 } (fun t => t.pc == 0x8081#16) = true ∧
      steps { start 0x8000#16 [0x30#8, 0x10#8] [] with p := fl 0xB4#8 } (fun t => t.pc == 0x8012#16) = true ∧
      steps (start 0x8000#16 [0x50#8, 0xF0#8] []) (fun t => t.pc == 0x7FF2#16) = true ∧
      steps { start 0x8000#16 [0x70#8, 0x02#8] [] with p := fl 0x74#8 } (fun t => t.pc == 0x8004#16) = true ∧
      steps { start 0x8000#16 [0xF0#8, 0x00#8] [] with p := fl 0x36#8 } (fun t => t.pc == 0x8002#16) = true ∧
      steps (start 0xFFFC#16 [0x10#8, 0x02#8] []) (fun t => t.pc == 0x0000#16) = true := by decide +kernel

/-- Vectors F2, F6, F8. -/
theorem test_step_branches_not_taken :
    steps { start 0x8000#16 [0xD0#8, 0xFE#8] [] with p := fl 0x36#8 } (fun t => t.p.toByte == 0x36#8 && t.pc == 0x8002#16) = true ∧
      steps (start 0x8000#16 [0xB0#8, 0x7F#8] []) (fun t => t.pc == 0x8002#16) = true ∧
      steps { start 0x8000#16 [0x10#8, 0x10#8] [] with p := fl 0xB4#8 } (fun t => t.pc == 0x8002#16) = true := by decide +kernel

/-- Vectors F13 to F16. -/
theorem test_step_jmp :
    steps (start 0x8000#16 [0x4C#8, 0x34#8, 0x12#8] []) (fun t => t.pc == 0x1234#16) = true ∧
      steps (start 0x8000#16 [0x6C#8, 0x00#8, 0x02#8] [(0x0200#16, 0x34#8), (0x0201#16, 0x12#8)]) (fun t => t.pc == 0x1234#16) = true ∧
      steps (start 0x8000#16 [0x6C#8, 0xFF#8, 0x02#8] [(0x02FF#16, 0x40#8), (0x0200#16, 0x80#8), (0x0300#16, 0x90#8)]) (fun t => t.pc == 0x8040#16) = true ∧
      steps (start 0x8000#16 [0x6C#8, 0xFF#8, 0xFF#8] [(0xFFFF#16, 0x34#8), (0xFF00#16, 0x12#8)]) (fun t => t.pc == 0x1234#16) = true := by decide +kernel

/-- Vectors F17, F18. -/
theorem test_step_jsr :
    steps { start 0x8000#16 [0x20#8, 0x34#8, 0x12#8] [] with sp := 0xFD#8 } (fun t => t.sp == 0xFB#8 && t.pc == 0x1234#16 && at_ t 0x01FD#16 == 0x80#8 && at_ t 0x01FC#16 == 0x02#8) = true ∧
      steps { start 0x8000#16 [0x20#8, 0x00#8, 0x80#8] [] with sp := 0x00#8 } (fun t => t.sp == 0xFE#8 && t.pc == 0x8000#16 && at_ t 0x0100#16 == 0x80#8 && at_ t 0x01FF#16 == 0x02#8) = true := by decide +kernel

/-- Vectors F19, F20. -/
theorem test_step_rts :
    steps { start 0x9000#16 [0x60#8] [(0x01FC#16, 0x02#8), (0x01FD#16, 0x80#8)] with sp := 0xFB#8 } (fun t => t.sp == 0xFD#8 && t.pc == 0x8003#16) = true ∧
      steps { start 0x9000#16 [0x60#8] [(0x01FC#16, 0xFF#8), (0x01FD#16, 0xFF#8)] with sp := 0xFB#8 } (fun t => t.pc == 0x0000#16) = true := by decide +kernel

/-- Vectors F21, F22. -/
theorem test_step_brk :
    steps { start 0x8000#16 [0x00#8] [(0xFFFE#16, 0x00#8), (0xFFFF#16, 0x90#8)] with p := fl 0x30#8 } (fun t => t.sp == 0xFA#8 && t.p.toByte == 0x34#8 && t.pc == 0x9000#16 && at_ t 0x01FD#16 == 0x80#8 && at_ t 0x01FC#16 == 0x02#8 && at_ t 0x01FB#16 == 0x34#8) = true ∧
      steps { start 0x8000#16 [0x00#8] [(0xFFFF#16, 0x90#8)] with p := fl 0xB7#8, sp := 0x01#8 } (fun t => t.sp == 0xFE#8 && t.p.toByte == 0xB7#8 && t.pc == 0x9000#16 && at_ t 0x0101#16 == 0x80#8 && at_ t 0x0100#16 == 0x02#8 && at_ t 0x01FF#16 == 0xB7#8) = true := by decide +kernel

/-- Vectors F25, F26. -/
theorem test_step_brk_parameters :
    steps { start 0x8000#16 [0x00#8] [(0xFFFF#16, 0x90#8)] with p := fl 0x30#8, params := { Params.default with brkPushOrder := .nmos } } (fun t => t.sp == 0xFA#8 && t.p.toByte == 0x34#8 && t.pc == 0x9000#16 && at_ t 0x01FB#16 == 0x30#8 && at_ t 0x01FC#16 == 0x02#8) = true ∧
      steps { start 0x8000#16 [0x00#8] [(0xFFFF#16, 0x90#8)] with p := fl 0x30#8, params := { Params.default with brkReturnOffset := 1#16 } } (fun t => at_ t 0x01FC#16 == 0x01#8 && at_ t 0x01FD#16 == 0x80#8 && at_ t 0x01FB#16 == 0x34#8 && t.pc == 0x9000#16) = true := by decide +kernel

/-- Vectors F23, F24. -/
theorem test_step_rti :
    steps { start 0x9000#16 [0x40#8] [(0x01FB#16, 0xC3#8), (0x01FC#16, 0x02#8), (0x01FD#16, 0x80#8)] with sp := 0xFA#8 } (fun t => t.sp == 0xFD#8 && t.p.toByte == 0xF3#8 && t.pc == 0x8002#16) = true ∧
      steps { start 0x9000#16 [0x40#8] [] with p := fl 0xFF#8, sp := 0xFA#8 } (fun t => t.sp == 0xFD#8 && t.p.toByte == 0x30#8 && t.pc == 0x0000#16) = true := by decide +kernel

/-- Vectors K1, K2. -/
theorem test_step_pha :
    steps { start 0x8000#16 [0x48#8] [] with a := 0x42#8 } (fun t => at_ t 0x01FD#16 == 0x42#8 && t.sp == 0xFC#8 && t.pc == 0x8001#16) = true ∧
      steps { start 0x8000#16 [0x48#8] [] with a := 0x42#8, sp := 0x00#8 } (fun t => at_ t 0x0100#16 == 0x42#8 && t.sp == 0xFF#8) = true := by decide +kernel

/-- Vectors K3. -/
theorem test_step_php :
    steps { start 0x8000#16 [0x08#8] [] with p := fl 0x21#8 } (fun t => at_ t 0x01FD#16 == 0x31#8 && t.sp == 0xFC#8 && t.p.toByte == 0x21#8 && t.pc == 0x8001#16) = true := by decide +kernel

/-- Vectors K4, K5. -/
theorem test_step_pla :
    steps { start 0x8000#16 [0x68#8] [(0x01FD#16, 0x80#8)] with sp := 0xFC#8 } (fun t => t.a == 0x80#8 && t.p.toByte == 0xB4#8 && t.sp == 0xFD#8 && t.pc == 0x8001#16) = true ∧
      steps { start 0x8000#16 [0x68#8] [] with a := 0x12#8, sp := 0xFF#8 } (fun t => t.a == 0x00#8 && t.p.toByte == 0x36#8 && t.sp == 0x00#8) = true := by decide +kernel

/-- Vectors K6 to K8. -/
theorem test_step_plp :
    steps { start 0x8000#16 [0x28#8] [(0x01FD#16, 0xC3#8)] with sp := 0xFC#8 } (fun t => t.p.toByte == 0xF3#8 && t.sp == 0xFD#8 && t.pc == 0x8001#16) = true ∧
      steps { start 0x8000#16 [0x28#8] [] with sp := 0xFC#8 } (fun t => t.p.toByte == 0x30#8) = true ∧
      steps { start 0x8000#16 [0x28#8] [(0x01FD#16, 0xFF#8)] with p := fl 0x04#8, sp := 0xFC#8 } (fun t => t.p.toByte == 0xCF#8) = true := by decide +kernel

/-- Vectors L1 to L5. -/
theorem test_step_lda :
    steps { start 0x8000#16 [0xA9#8, 0x00#8] [] with a := 0x55#8 } (fun t => t.a == 0x00#8 && t.p.toByte == 0x36#8 && t.pc == 0x8002#16) = true ∧
      steps (start 0x8000#16 [0xA9#8, 0x80#8] []) (fun t => t.a == 0x80#8 && t.p.toByte == 0xB4#8) = true ∧
      steps { start 0x8000#16 [0xB5#8, 0xFF#8] [(0x0000#16, 0x5A#8)] with x := 0x01#8 } (fun t => t.a == 0x5A#8 && t.p.toByte == 0x34#8) = true ∧
      steps (start 0x8000#16 [0xAD#8, 0x00#8, 0x08#8] [(0x0000#16, 0x42#8)]) (fun t => t.a == 0x42#8 && t.pc == 0x8003#16) = true ∧
      steps { start 0x8000#16 [0xBD#8, 0xFF#8, 0xFF#8] [(0x0001#16, 0x77#8)] with x := 0x02#8 } (fun t => t.a == 0x77#8) = true := by decide +kernel

/-- Vectors L6 to L9. -/
theorem test_step_lda_indirect :
    steps { start 0x8000#16 [0xB9#8, 0xF0#8, 0x12#8] [(0x0310#16, 0x99#8)] with y := 0x20#8 } (fun t => t.a == 0x99#8 && t.p.toByte == 0xB4#8) = true ∧
      steps { start 0x8000#16 [0xA1#8, 0xFE#8] [(0x00FF#16, 0x34#8), (0x0000#16, 0x02#8), (0x0234#16, 0xAB#8)] with x := 0x01#8 } (fun t => t.a == 0xAB#8 && t.p.toByte == 0xB4#8) = true ∧
      steps { start 0x8000#16 [0xB1#8, 0xFF#8] [(0x00FF#16, 0xF8#8), (0x0000#16, 0x02#8), (0x0308#16, 0xCD#8)] with y := 0x10#8 } (fun t => t.a == 0xCD#8 && t.p.toByte == 0xB4#8) = true ∧
      steps { start 0x8000#16 [0xB1#8, 0x10#8] [(0x0010#16, 0xFF#8), (0x0011#16, 0xFF#8), (0x0001#16, 0x66#8)] with y := 0x02#8 } (fun t => t.a == 0x66#8) = true := by decide +kernel

/-- Vectors L10, L11. -/
theorem test_step_ldx_ldy :
    steps { start 0x8000#16 [0xB6#8, 0xF0#8] [(0x0010#16, 0x01#8)] with y := 0x20#8 } (fun t => t.x == 0x01#8 && t.p.toByte == 0x34#8 && t.pc == 0x8002#16) = true ∧
      steps (start 0x8000#16 [0xA0#8, 0x7F#8] []) (fun t => t.y == 0x7F#8 && t.p.toByte == 0x34#8 && t.pc == 0x8002#16) = true := by decide +kernel

/-- Vectors L12 to L14. -/
theorem test_step_sta :
    steps { start 0x8000#16 [0x8D#8, 0x00#8, 0x08#8] [] with a := 0x42#8 } (fun t => at_ t 0x0000#16 == 0x42#8 && t.p.toByte == 0x34#8 && t.pc == 0x8003#16) = true ∧
      steps { start 0x8000#16 [0x8D#8, 0x08#8, 0x20#8] [] with a := 0x07#8 } (fun t => at_ t 0x2000#16 == 0x07#8) = true ∧
      steps { start 0x8000#16 [0x91#8, 0x20#8] [(0x0021#16, 0x04#8)] with a := 0x05#8, y := 0x01#8 } (fun t => at_ t 0x0401#16 == 0x05#8) = true := by decide +kernel

/-- Vectors L23. -/
theorem test_step_sta_rom :
    steps { start 0x8000#16 [0x8D#8, 0x00#8, 0x80#8] [] with a := 0x42#8, params := { Params.default with prgWritable := false } } (fun t => at_ t 0x8000#16 == 0x8D#8 && t.pc == 0x8003#16) = true := by decide +kernel

/-- Vectors L15, L16. -/
theorem test_step_stx_sty :
    steps { start 0x8000#16 [0x96#8, 0xFF#8] [] with x := 0x07#8, y := 0x02#8 } (fun t => at_ t 0x0001#16 == 0x07#8 && t.pc == 0x8002#16) = true ∧
      steps { start 0x8000#16 [0x94#8, 0xFF#8] [] with y := 0x09#8, x := 0x01#8 } (fun t => at_ t 0x0000#16 == 0x09#8 && t.pc == 0x8002#16) = true := by decide +kernel

/-- Vectors L17 to L22. -/
theorem test_step_transfers :
    steps { start 0x8000#16 [0xAA#8] [] with a := 0x00#8, x := 0x12#8 } (fun t => t.x == 0x00#8 && t.p.toByte == 0x36#8 && t.pc == 0x8001#16) = true ∧
      steps { start 0x8000#16 [0xA8#8] [] with a := 0x80#8 } (fun t => t.y == 0x80#8 && t.p.toByte == 0xB4#8) = true ∧
      steps { start 0x8000#16 [0x8A#8] [] with x := 0xFF#8 } (fun t => t.a == 0xFF#8 && t.p.toByte == 0xB4#8) = true ∧
      steps { start 0x8000#16 [0x98#8] [] with y := 0x10#8 } (fun t => t.a == 0x10#8 && t.p.toByte == 0x34#8) = true ∧
      steps (start 0x8000#16 [0xBA#8] []) (fun t => t.x == 0xFD#8 && t.p.toByte == 0xB4#8) = true ∧
      steps { start 0x8000#16 [0x9A#8] [] with x := 0x00#8, p := fl 0x36#8 } (fun t => t.sp == 0x00#8 && t.p.toByte == 0x36#8) = true := by decide +kernel

/-- Vectors G1 to G5. -/
theorem test_step_logic :
    steps { start 0x8000#16 [0x29#8, 0x3C#8] [] with a := 0xF0#8 } (fun t => t.a == 0x30#8 && t.p.toByte == 0x34#8 && t.pc == 0x8002#16) = true ∧
      steps { start 0x8000#16 [0x29#8, 0x00#8] [] with a := 0xFF#8 } (fun t => t.a == 0x00#8 && t.p.toByte == 0x36#8) = true ∧
      steps { start 0x8000#16 [0x09#8, 0x80#8] [] with a := 0x01#8 } (fun t => t.a == 0x81#8 && t.p.toByte == 0xB4#8) = true ∧
      steps { start 0x8000#16 [0x49#8, 0xFF#8] [] with a := 0x0F#8 } (fun t => t.a == 0xF0#8 && t.p.toByte == 0xB4#8) = true ∧
      steps { start 0x8000#16 [0x49#8, 0x5A#8] [] with a := 0x5A#8 } (fun t => t.a == 0x00#8 && t.p.toByte == 0x36#8) = true := by decide +kernel

/-- Vectors G6, G7. -/
theorem test_step_bit :
    steps { start 0x8000#16 [0x24#8, 0x10#8] [(0x0010#16, 0xC0#8)] with a := 0x01#8 } (fun t => t.a == 0x01#8 && t.p.toByte == 0xF6#8 && t.pc == 0x8002#16) = true ∧
      steps { start 0x8000#16 [0x24#8, 0x10#8] [(0x0010#16, 0x01#8)] with a := 0x0F#8, p := fl 0xF4#8 } (fun t => t.p.toByte == 0x34#8) = true := by decide +kernel

/-- Vectors G8 to G11. -/
theorem test_step_inc_dec :
    steps { start 0x8000#16 [0xE6#8, 0x10#8] [(0x0010#16, 0xFF#8)] with p := fl 0x35#8 } (fun t => at_ t 0x0010#16 == 0x00#8 && t.p.toByte == 0x37#8 && t.pc == 0x8002#16) = true ∧
      steps (start 0x8000#16 [0xE6#8, 0x10#8] [(0x0010#16, 0x7F#8)]) (fun t => at_ t 0x0010#16 == 0x80#8 && t.p.toByte == 0xB4#8) = true ∧
      steps (start 0x8000#16 [0xCE#8, 0x00#8, 0x02#8] []) (fun t => at_ t 0x0200#16 == 0xFF#8 && t.p.toByte == 0xB4#8 && t.pc == 0x8003#16) = true ∧
      steps { start 0x8000#16 [0xD6#8, 0x10#8] [(0x0001#16, 0x01#8)] with x := 0xF1#8 } (fun t => at_ t 0x0001#16 == 0x00#8 && t.p.toByte == 0x36#8) = true := by decide +kernel

/-- Vectors G12 to G15. -/
theorem test_step_index_steps :
    steps { start 0x8000#16 [0xE8#8] [] with x := 0xFF#8 } (fun t => t.x == 0x00#8 && t.p.toByte == 0x36#8 && t.pc == 0x8001#16) = true ∧
      steps { start 0x8000#16 [0xC8#8] [] with y := 0x7F#8 } (fun t => t.y == 0x80#8 && t.p.toByte == 0xB4#8) = true ∧
      steps { start 0x8000#16 [0xCA#8] [] with x := 0x00#8 } (fun t => t.x == 0xFF#8 && t.p.toByte == 0xB4#8) = true ∧
      steps { start 0x8000#16 [0x88#8] [] with y := 0x01#8 } (fun t => t.y == 0x00#8 && t.p.toByte == 0x36#8) = true := by decide +kernel

/-- Vectors G16 to G23. -/
theorem test_step_flags_and_nop :
    steps { start 0x8000#16 [0x18#8] [] with p := fl 0xFF#8 } (fun t => t.p.toByte == 0xFE#8 && t.pc == 0x8001#16) = true ∧
      steps { start 0x8000#16 [0x38#8] [] with p := fl 0x30#8 } (fun t => t.p.toByte == 0x31#8) = true ∧
      steps { start 0x8000#16 [0x58#8] [] with p := fl 0x34#8 } (fun t => t.p.toByte == 0x30#8) = true ∧
      steps { start 0x8000#16 [0x78#8] [] with p := fl 0x30#8 } (fun t => t.p.toByte == 0x34#8) = true ∧
      steps { start 0x8000#16 [0xD8#8] [] with p := fl 0x3C#8 } (fun t => t.p.toByte == 0x34#8) = true ∧
      steps { start 0x8000#16 [0xF8#8] [] with p := fl 0x34#8 } (fun t => t.p.toByte == 0x3C#8) = true ∧
      steps { start 0x8000#16 [0xB8#8] [] with p := fl 0x74#8 } (fun t => t.p.toByte == 0x34#8) = true ∧
      steps { start 0x8000#16 [0xEA#8] [] with a := 0x11#8, p := fl 0xB5#8 } (fun t => t.a == 0x11#8 && t.p.toByte == 0xB5#8 && t.pc == 0x8001#16) = true := by decide +kernel

/-! ### The engine, power-on, reset and interrupts -/

/-- The state of vector H1: an unpopulated opcode at 0x8000. -/
def unpopulatedState : State :=
  { start 0x8000#16 [0x02#8] [] with a := 0x12#8, x := 0x34#8, y := 0x56#8, sp := 0xF0#8, p := fl 0xB5#8 }

/-- The state H1 leaves: only the engine state has changed. -/
def haltedState : State := unpopulatedState.setEngine (.halted .unknownOpcode)

/-- Vectors H1, H2, H4. -/
theorem test_halts :
    step unpopulatedState = .fault (.halted .unknownOpcode haltedState) ∧
      step haltedState = .fault (.halted .unknownOpcode haltedState) ∧
      step State.unpowered = .fault .notPoweredOn := ⟨rfl, rfl, rfl⟩

/-- Vectors H3, H5. -/
theorem test_reset_restarts :
    (match haltedState.hostReset with
      | .ok t => t.engine == .running && t.sp == 0xED#8 && t.p.i && t.pc == 0x0000#16
      | .error _ => false) = true ∧
      State.unpowered.hostReset = .error .notPoweredOn := by decide +kernel

/-- Vectors H6, H7: the fetch wraps at the top of the address space. -/
theorem test_fetch_wraps :
    steps (start 0xFFFF#16 [] [(0xFFFF#16, 0xA9#8), (0x0000#16, 0x5C#8)]) (fun t => t.a == 0x5C#8 && t.pc == 0x0001#16) = true ∧
      steps (start 0xFFFE#16 [] [(0xFFFE#16, 0x4C#8), (0x0001#16, 0x80#8), (0x0000#16, 0x80#8)])
        (fun t => t.pc == 0x8000#16) = true := by decide +kernel

/-- Vector H8, its third and fourth steps: a stored byte is what the next fetch reads. -/
theorem test_fetch_sees_stores :
    steps { start 0x8002#16 [0x8D#8, 0x06#8, 0x80#8] [(0x8006#16, 0x02#8)] with a := 0xE8#8 }
        (fun t => at_ t 0x8006#16 == 0xE8#8 && steps (t.setPc 0x8006#16) (fun u => u.x == 0x01#8 && u.pc == 0x8007#16)) = true := by
  decide +kernel

/-- Vector H9 at both ends of the opcodes with no dispatch entry. -/
theorem test_unpopulated_steps :
    stops (start 0x8000#16 [0x02#8] []) (fun k => k == .halted .unknownOpcode
        ((start 0x8000#16 [0x02#8] []).setEngine (.halted .unknownOpcode))) = true ∧
      stops (start 0x8000#16 [0xFF#8] []) (fun k => k == .halted .unknownOpcode
        ((start 0x8000#16 [0xFF#8] []).setEngine (.halted .unknownOpcode))) = true := by decide +kernel

/-- Vectors M1 to M12. -/
theorem test_translate :
    translateAddr 0x0000#16 .nrom256 = 0x0000#16 ∧ translateAddr 0x07FF#16 .nrom128 = 0x07FF#16 ∧
      translateAddr 0x0800#16 .nrom256 = 0x0000#16 ∧ translateAddr 0x1FFF#16 .nrom128 = 0x07FF#16 ∧
      translateAddr 0x2000#16 .nrom256 = 0x2000#16 ∧ translateAddr 0x2008#16 .nrom128 = 0x2000#16 ∧
      translateAddr 0x3FFF#16 .nrom256 = 0x2007#16 ∧ translateAddr 0x4015#16 .nrom128 = 0x4015#16 ∧
      translateAddr 0x7FFF#16 .nrom128 = 0x7FFF#16 ∧ translateAddr 0xC000#16 .nrom128 = 0x8000#16 ∧
      translateAddr 0xFFFC#16 .nrom128 = 0xBFFC#16 ∧ translateAddr 0xC000#16 .nrom256 = 0xC000#16 := by decide

/-- Vectors R1, R5, R6. -/
theorem test_power_on :
    (let t := (start 0x1234#16 [] [(0xFFFD#16, 0x80#8), (0x4015#16, 0xFF#8), (0x4017#16, 0xFF#8)]).powerOn .nrom256;
      t.sp == 0xFD#8 && t.p.toByte == 0x34#8 && t.pc == 0x8000#16 && at_ t 0x4015#16 == 0#8 && at_ t 0x4017#16 == 0#8) = true ∧
      (State.unpowered.powerOn .nrom256).pc = 0x0000#16 ∧
      (let t := ({ start 0x8000#16 [] [(0x0200#16, 0x77#8)] with a := 0x55#8 } : State).powerOn .nrom256;
        t.a == 0x00#8 && at_ t 0x0200#16 == 0x77#8) = true := by decide +kernel

/-- Vector R2, with a short image: the reset vector of an NROM128 cartridge is read through the mirror. -/
theorem test_boot :
    (match (State.unpowered.setMem []).storageLoad 0x8000#16 [] with | .next _ => true | _ => false) = true ∧
      (start 0x1234#16 [] [(0xBFFD#16, 0xC0#8)] |>.powerOn .nrom128).pc = 0xC000#16 ∧
      (match State.unpowered.boot 0x01#8 [0xA9#8, 0x07#8] with
        | .next t => t.mode == .nrom128 && t.engine == .running && at_ t 0x8001#16 == 0x07#8 && t.peek 0xC001#16 == 0x07#8
        | _ => false) = true := by decide +kernel

/-- Vectors R3, R4. -/
theorem test_reset :
    (let s : State := { start 0x9000#16 [] [(0xFFFD#16, 0x80#8), (0x4015#16, 0x0F#8), (0x4017#16, 0x0F#8)] with
        a := 0x11#8, sp := 0x02#8, p := fl 0x30#8 };
      s.resetSequence.a == 0x11#8 && s.resetSequence.sp == 0xFF#8 && s.resetSequence.p.toByte == 0x34#8 &&
        s.resetSequence.pc == 0x8000#16 && at_ s.resetSequence 0x4015#16 == 0#8 && at_ s.resetSequence 0x4017#16 == 0x0F#8 &&
        ({ s with params := { Params.default with resetLoadsPc := false } } : State).resetSequence.pc == 0x9000#16) = true := by
  decide +kernel

/-- The state of the interrupt vectors: vectors of 60_exceptions.md at 0xFFFA and 0xFFFE, inputs connected. -/
def interruptState : State :=
  { start 0x8123#16 [0xEA#8] [(0xFFFB#16, 0xA0#8), (0xFFFF#16, 0xB0#8)] with
    p := fl 0x30#8, params := { Params.default with interruptsConnected := true } }

/-- Vector I1. -/
theorem test_nmi :
    steps { interruptState with nmiPending := true } (fun t => t.pc == 0xA000#16 && t.sp == 0xFA#8 && t.p.toByte == 0x34#8 &&
      !t.nmiPending && at_ t 0x01FD#16 == 0x81#8 && at_ t 0x01FC#16 == 0x23#8 && at_ t 0x01FB#16 == 0x20#8) = true := by
  decide +kernel

/-- Vectors I2 to I4 after the inputs' sampling. -/
theorem test_irq :
    (let t := ({ interruptState with irqLine := true } : State).enterInterrupt .irq;
      t.pc == 0xB000#16 && t.sp == 0xFA#8 && t.p.toByte == 0x34#8 && at_ t 0x01FB#16 == 0x20#8) = true ∧
      ({ interruptState with irqLine := true } : State).interruptDue = some .irq ∧
      ({ interruptState with irqLine := true, p := fl 0x34#8 } : State).interruptDue = none ∧
      ({ interruptState with irqLine := true, nmiPending := true } : State).interruptDue = some .nmi := by decide +kernel

/-- A word placed where the next step fetches is the instruction it runs, at reset and in Unpowered. -/
theorem test_withFetchWord :
    steps (State.reset.withFetchWord 16 0x9CA9) (fun t => t.a == 0x9C#8 && t.pc == 0x0002#16) = true ∧
      steps (State.unpowered.withFetchWord 24 0x12344C) (fun t => t.pc == 0x1234#16) = true ∧
      stops (State.reset.withFetchWord 8 0x02) (fun k => k == .halted .unknownOpcode
        ((State.reset.withFetchWord 8 0x02).setEngine (.halted .unknownOpcode))) = true := by decide +kernel

/-- R125: a bound that runs out after the NOP, and a longer one that halts at the opcode after it, with PC there. -/
theorem test_run :
    (match (start 0x8000#16 [0xEA#8, 0x02#8] []).run 1 with
      | .next t => t.engine == .running && t.pc == 0x8001#16
      | .fault _ | .refused _ => false) = true ∧
      stepCode ((start 0x8000#16 [0xEA#8, 0x02#8] []).run 9) = some 1 ∧
      ((start 0x8000#16 [0xEA#8, 0x02#8] []).afterRun 9).pc = 0x8001#16 ∧
      ((start 0x8000#16 [0xEA#8, 0x02#8] []).afterRun 9).engine = .halted .unknownOpcode ∧
      stepCode (State.unpowered.run 1) = some 3 := by decide +kernel

/-- The codes of R300. -/
theorem test_codes :
    stepCode (step State.reset) = some 0 ∧ stepCode (step haltedState) = some 1 ∧
      stepCode (.fault (.halted .truncatedBuffer haltedState)) = some 2 ∧ stepCode (step State.unpowered) = some 3 ∧
      hostErrorCode .allocError = 4 := ⟨rfl, rfl, rfl, rfl, rfl⟩

/-! ### Witnesses: a state and operands that meet each obligation's hypotheses -/

theorem test_witness_EncodeInvertsDecode :
    decode [0xA9#8, 0x05#8, 0x99#8] = .ok (.ldaImmediate 0x05#8) ∧ decode [0x6C#8, 0xFF#8, 0xFF#8] = .ok (.jmpIndirectAbsolute 0xFFFF#16) := by
  decide

/-- No entry, an entry with too few bytes, and entries of length 1, 2 and 3 with just enough. -/
theorem test_witness_DecoderContract :
    dispatch 0x02#8 = none ∧
      (∃ e, dispatch 0xAD#8 = some e ∧ [0x00#8].length + 1 < e.mode.length) ∧
      (∃ e, dispatch 0xEA#8 = some e ∧ e.mode.length = 1 ∧ e.mode.length ≤ ([] : List Byte).length + 1) ∧
      (∃ e, dispatch 0xA9#8 = some e ∧ e.mode.length = 2 ∧ e.mode.length ≤ [0x05#8].length + 1) ∧
      ∃ e, dispatch 0x4C#8 = some e ∧ e.mode.length = 3 ∧ e.mode.length ≤ [0x34#8, 0x12#8].length + 1 :=
  ⟨rfl, ⟨_, rfl, by decide⟩, ⟨_, rfl, rfl, by decide⟩, ⟨_, rfl, rfl, by decide⟩, ⟨_, rfl, rfl, by decide⟩⟩

theorem test_witness_UnpopulatedOpcodesFail :
    decode [0x02#8, 0x00#8] = .error .unknownOpcode ∧ decode [0xFF#8] = .error .unknownOpcode := by decide

theorem test_witness_LengthsFollowModes :
    Sys2Proof.describe [0x4C#8, 0x34#8, 0x12#8] = .ok ⟨0x4C#8, 3, 0x1234#16⟩ ∧ dispatch 0x02#8 = none ∧
      (dispatch 0x4C#8).isSome = true := by decide

/-- Each range of the map at both ends. -/
theorem test_witness_TranslationFollowsTheMap :
    (0x1FFF#16).toNat ≤ 0x1FFF ∧ ¬ (0x2000#16).toNat ≤ 0x1FFF ∧ (0x3FFF#16).toNat ≤ 0x3FFF ∧ 0x4000 ≤ (0x4000#16).toNat ∧
      (0x7FFF#16).toNat < 0x8000 ∧ 0x8000 ≤ (0x8000#16).toNat ∧ translateAddr 0xFFFF#16 .nrom128 = 0xBFFF#16 ∧
      translateAddr 0x8000#16 .nrom128 = 0x8000#16 := by decide

theorem test_witness_AliasesShareAByte :
    State.reset.Writable 0x0000#16 ∧ translateAddr 0x0000#16 State.reset.mode = translateAddr 0x1800#16 State.reset.mode ∧
      State.reset.Writable 0x2007#16 ∧ translateAddr 0x2007#16 State.reset.mode = translateAddr 0x3FFF#16 State.reset.mode ∧
      translateAddr 0xC000#16 .nrom128 = translateAddr 0x8000#16 .nrom128 := by decide

/-- Writable RAM under a protected PRG window, a writable PRG byte, and a protected one. -/
theorem test_witness_WriteStoresOneByte :
    ({ State.reset with params := { Params.default with prgWritable := false } } : State).Writable 0x7FFF#16 ∧
      State.reset.Writable 0x8000#16 ∧ 0x8000 ≤ (0x8000#16).toNat ∧
      ({ Params.default with prgWritable := false } : Params).prgWritable = false := by decide

/-- Stored I/O bytes, addresses just outside the windows, and the two ends of the windows under a draw. -/
theorem test_witness_ReadHasNoSideEffect :
    State.reset.params.ioModel = .storage ∧ (0x1FFF#16).toNat < 0x2000 ∧ 0x401F < (0x4020#16).toNat ∧
      ({ Params.default with ioModel := .draw } : Params).ioModel = .draw ∧ 0x2000 ≤ (0x2000#16).toNat ∧
      (0x401F#16).toNat ≤ 0x401F := by decide

theorem test_witness_StorageBeforeAndAtPowerOn :
    State.unpowered.storageReady = false ∧ State.reset.storageReady = true := by decide

/-- A load that ends at 0xFFFF, one that does not fit, a small image, and one byte too many. -/
theorem test_witness_LoadAndBoot :
    State.reset.storageReady = true ∧ (0xFFFE#16).toNat + [0x01#8, 0x02#8].length ≤ 65536 ∧
      65536 < (0xFFFF#16).toNat + [0x01#8, 0x02#8].length ∧ [0xEA#8].length ≤ 32768 ∧
      32768 < (List.replicate 32769 (0#8)).length :=
  ⟨rfl, by decide, by decide, by decide, by rw [List.length_replicate]; decide⟩

theorem test_witness_PushAndPullUseTheStackPage :
    State.reset.storageReady = true ∧ ({ State.reset with sp := 0x00#8 } : State).storageReady = true := by decide

theorem test_witness_EffectiveAddressesByMode :
    Mode.zeroPage ≠ .indirectAbsolute ∧ Mode.indirectIndexedDPY ≠ .indirectAbsolute := by decide

theorem test_witness_RunStopsAtHaltedOrTheBound :
    haltedState.run 0 = .next haltedState ∧ unpopulatedState.engine = .running ∧
      unpopulatedState.run 3 = .fault (.halted .unknownOpcode haltedState) := ⟨rfl, rfl, rfl⟩

theorem test_witness_OperandValuesByMode :
    State.reset.params.ioModel = .storage ∧ Mode.absoluteX ≠ .accumulator ∧ Mode.absoluteX ≠ .immediate := by decide

/-- An instruction of each mnemonic the per-mnemonic statements speak of, both kinds of form for the shifts. -/
theorem test_witness_mnemonics :
    (Instr.adcImmediate 0xFF#8).mnemonic = .adc ∧ (Instr.sbcIndirectIndexedDPY 0xFF#8).mnemonic = .sbc ∧
      (Instr.cmpAbsoluteX 0xFFFF#16).mnemonic = .cmp ∧ (Instr.cpxZeroPage 0x00#8).mnemonic = .cpx ∧
      (Instr.cpyAbsolute 0x2002#16).mnemonic = .cpy ∧
      Instr.aslAccumulator.mnemonic = .asl ∧ Instr.aslAccumulator.mode = .accumulator ∧
      (Instr.aslAbsoluteX 0xFFFF#16).mnemonic = .asl ∧ (Instr.aslAbsoluteX 0xFFFF#16).mode ≠ .accumulator ∧
      Instr.lsrAccumulator.mnemonic = .lsr ∧ Instr.lsrAccumulator.mode = .accumulator ∧
      (Instr.lsrZeroPage 0xFF#8).mnemonic = .lsr ∧ (Instr.lsrZeroPage 0xFF#8).mode ≠ .accumulator ∧
      Instr.rolAccumulator.mnemonic = .rol ∧ Instr.rolAccumulator.mode = .accumulator ∧
      (Instr.rolZeroPageX 0xFF#8).mnemonic = .rol ∧ (Instr.rolZeroPageX 0xFF#8).mode ≠ .accumulator ∧
      Instr.rorAccumulator.mnemonic = .ror ∧ Instr.rorAccumulator.mode = .accumulator ∧
      (Instr.rorAbsolute 0x8000#16).mnemonic = .ror ∧ (Instr.rorAbsolute 0x8000#16).mode ≠ .accumulator ∧
      (Instr.andZeroPage 0x10#8).mnemonic = .and ∧ (Instr.oraZeroPage 0x10#8).mnemonic = .ora ∧
      (Instr.eorZeroPage 0x10#8).mnemonic = .eor ∧ (Instr.bitZeroPage 0x10#8).mnemonic = .bit ∧
      (Instr.ldaZeroPage 0x10#8).mnemonic = .lda ∧ (Instr.ldxZeroPageY 0xFF#8).mnemonic = .ldx ∧
      (Instr.ldyZeroPageX 0xFF#8).mnemonic = .ldy := by decide

/-- The step that meets the hypotheses of a store clause: a next state, and an effective address that can be written. -/
theorem test_witness_IncAndDecMemory :
    (Instr.incZeroPage 0x10#8).mnemonic = .inc ∧ (Instr.decAbsoluteX 0xFFFF#16).mnemonic = .dec ∧
      State.reset.Writable (State.reset.effectiveAddress .zeroPage 0x10#16) ∧
      State.reset.Writable (State.reset.effectiveAddress .absoluteX 0xFFFF#16) ∧
      steps (start 0x8000#16 [0xE6#8, 0x10#8] []) (fun t => t.peek 0x0010#16 == 0x01#8) = true := by decide +kernel

theorem test_witness_StoresWriteTheRegister :
    (Instr.staAbsolute 0x0800#16).mnemonic = .sta ∧ (Instr.stxZeroPageY 0xFF#8).mnemonic = .stx ∧
      (Instr.styZeroPageX 0xFF#8).mnemonic = .sty ∧
      State.reset.Writable (State.reset.effectiveAddress .absolute 0x0800#16) ∧
      translateAddr 0x0000#16 State.reset.mode = translateAddr 0x0800#16 State.reset.mode ∧
      0x0001#16 ≠ translateAddr 0x0800#16 State.reset.mode := by decide +kernel

theorem test_witness_BranchesAddASignedDisplacement : State.reset.p.z = false := by decide

/-- Stored I/O bytes at both forms of pointer, and pointers at the edges of the I/O windows, whole outside them. -/
theorem test_witness_JumpsSetPc :
    State.reset.params.ioModel = .storage ∧ (0x30FF#16).toNat % 256 = 255 ∧ ¬ (0x30FE#16).toNat % 256 = 255 ∧
      (0x1FFF#16).toNat % 256 = 255 ∧ (0x1FFF#16).toNat < 0x2000 ∧ (0x1FFF#16 - 255#16).toNat < 0x2000 ∧
      ¬ (0x4020#16).toNat % 256 = 255 ∧ 0x401F < (0x4020#16).toNat ∧ 0x401F < (0x4020#16 + 1#16).toNat := by decide

/-- A ready Storage, for JSR, PHA, PHP and BRK. -/
theorem test_witness_stack_pushes :
    State.reset.storageReady = true ∧ (start 0x8000#16 [] []).storageReady = true := by decide

theorem test_witness_StackRoundTrips :
    State.reset.storageReady = true ∧
      (∃ t u, exec (.jsr 0x1234#16) State.reset = .next t ∧ exec .rts t = .next u) ∧
      (∃ t u, exec .php State.reset = .next t ∧ exec .plp t = .next u) ∧
      ∃ t u, exec .pha State.reset = .next t ∧ exec .pla t = .next u :=
  ⟨rfl, ⟨_, _, rfl, rfl⟩, ⟨_, _, rfl, rfl⟩, ⟨_, _, rfl, rfl⟩⟩

/-- A handler that changed every register, the flags and a byte outside the frame. -/
theorem test_witness_BrkThenRtiReturns :
    State.reset.storageReady = true ∧ ∃ t r u, exec .brk State.reset = .next t ∧
      r = { t.memWrite 0x0200#16 0x99#8 with a := 0x55#8, x := 0x66#8, y := 0x77#8, pc := 0x9000#16, p := fl 0xFF#8 } ∧
      r.storageReady = true ∧ r.sp = t.sp ∧
      (∀ k : Byte, k = 1#8 ∨ k = 2#8 ∨ k = 3#8 →
        r.storageRead (stackAddr (t.sp + k)) = t.storageRead (stackAddr (t.sp + k))) ∧
      exec .rti r = .next u :=
  ⟨rfl, _, _, _, rfl, rfl, rfl, rfl, by rintro k (rfl | rfl | rfl) <;> decide +kernel, rfl⟩

/-- A step that takes a pending NMI, and the state of an IRQ: the sampled level is a free value, so the step's own
hypothesis is met whenever that value is true. -/
theorem test_witness_InterruptEntryPushesTheFrame :
    ({ interruptState with nmiPending := true } : State).engine = .running ∧
      ({ interruptState with nmiPending := true } : State).sampleInputs.interruptDue = some .nmi ∧
      interruptState.storageReady = true ∧
      (irqInput 0 = true → ({ interruptState with nmiLine := true } : State).sampleInputs.interruptDue = some .irq) := by
  refine ⟨rfl, rfl, rfl, fun h => ?_⟩
  show State.interruptDue { interruptState with nmiLine := nmiInput 0, irqLine := irqInput 0, drawIndex := 1 } = _
  rw [h]
  rfl

/-- Inputs disconnected; connected with an NMI pending, with only an IRQ; and a connected state whose step runs an
instruction whatever the inputs are. -/
theorem test_witness_InterruptPriority :
    State.reset.params.interruptsConnected = false ∧ interruptState.params.interruptsConnected = true ∧
      ({ interruptState with irqLine := true } : State).interruptDue = some .irq ∧
      ({ interruptState with nmiLine := true, p := fl 0x34#8 } : State).engine = .running ∧
      ({ interruptState with nmiLine := true, p := fl 0x34#8 } : State).sampleInputs.interruptDue = none ∧
      decode ({ interruptState with nmiLine := true, p := fl 0x34#8 } : State).sampleInputs.fetch.1 = .ok .nop ∧
      State.unpowered.engine ≠ .running := by
  refine ⟨rfl, rfl, rfl, rfl, ?_, by decide +kernel, by decide⟩
  show (if irqInput 0 && false then some Interrupt.irq else none) = none
  cases irqInput 0 <;> rfl

theorem test_witness_NmiIsLatched :
    interruptState.params.interruptsConnected = true ∧ ({ interruptState with nmiPending := true } : State).nmiPending = true ∧
      (∃ t, exec .nop interruptState = .next t) ∧ ∃ t, haltedState.hostReset = .ok t :=
  ⟨rfl, rfl, ⟨_, rfl⟩, ⟨_, rfl⟩⟩

theorem test_witness_StepRunsTheDecodedInstruction :
    (start 0x8000#16 [0xEA#8] []).engine = .running ∧ (start 0x8000#16 [0xEA#8] []).params.ioModel = .storage ∧
      (start 0x8000#16 [0xEA#8] []).params.interruptsConnected = false ∧
      (start 0x8000#16 [0xEA#8] []).sampleInputs.interruptDue = none ∧
      decode (start 0x8000#16 [0xEA#8] []).sampleInputs.fetch.1 = .ok .nop ∧
      decode [(start 0x8000#16 [0xEA#8] []).peek 0x8000#16, (start 0x8000#16 [0xEA#8] []).peek 0x8001#16,
        (start 0x8000#16 [0xEA#8] []).peek 0x8002#16] = .ok .nop := by decide +kernel

theorem test_witness_UnknownOpcodeHalts :
    unpopulatedState.engine = .running ∧ unpopulatedState.sampleInputs.interruptDue = none ∧
      dispatch (unpopulatedState.sampleInputs.memRead unpopulatedState.sampleInputs.pc).1 = none ∧
      unpopulatedState.params.interruptsConnected = false ∧ unpopulatedState.params.ioModel = .storage ∧
      dispatch (unpopulatedState.peek unpopulatedState.pc) = none ∧
      step unpopulatedState = .fault (.halted .unknownOpcode haltedState) := ⟨rfl, rfl, rfl, rfl, rfl, rfl, rfl⟩

theorem test_witness_StoppedEngineDoesNothing :
    State.unpowered.engine = .unpowered ∧ haltedState.engine = .halted .unknownOpcode := by decide +kernel

/-- Stored I/O bytes, the three addresses just below and just above the windows, and a fetch that wraps. -/
theorem test_witness_FetchAlwaysSuppliesThreeBytes :
    (start 0xFFFF#16 [] []).params.ioModel = .storage ∧ (start 0xFFFF#16 [] []).engine = .running ∧
      (BitVec.ofNat 16 (0x1FFD + 2)).toNat < 0x2000 ∧ 0x401F < (BitVec.ofNat 16 0x4020).toNat ∧
      0x401F < (0xFFFF#16).toNat ∧ (BitVec.ofNat 16 (0xFFFF + 2)).toNat < 0x2000 := by decide

/-- A state that meets the invariant and steps to a next state, and one whose step halts. -/
theorem test_witness_StepKeepsTheInvariant :
    State.reset.Inv ∧ stepCode (step State.reset) = some 0 ∧ unpopulatedState.Inv ∧
      stepCode (step unpopulatedState) = some 1 := by decide +kernel

theorem test_witness_HostOperationsKeepTheInvariant :
    State.reset.Inv ∧ (∃ t, State.reset.hostReset = .ok t) ∧ (∃ t, State.reset.storageLoad 0x8000#16 [0xEA#8] = .next t) ∧
      ∃ t, State.reset.boot 0x02#8 [0xEA#8] = .next t :=
  ⟨by decide, ⟨_, rfl⟩, ⟨_, rfl⟩, ⟨_, rfl⟩⟩

theorem test_witness_StepKeepsConfigurationAndStickyFlags :
    stepCode (step State.reset) = some 0 ∧ State.reset.p.b = true ∧ State.reset.p.toByte &&& 0x30#8 = 0x30#8 := by
  decide +kernel

/-- A storing instruction with an offset it does not store to and an address that does not name the stored byte. -/
theorem test_witness_MemoryFrameOfEveryInstruction :
    (∃ t, exec (.staZeroPage 0x10#8) State.reset = .next t) ∧ storesTo (.staZeroPage 0x10#8) State.reset = [0x0010#16] ∧
      translateAddr 0x0010#16 State.reset.mode ≠ 0x0011#16 ∧
      translateAddr 0x0010#16 State.reset.mode ≠ translateAddr 0x0811#16 State.reset.mode :=
  ⟨⟨_, rfl⟩, by decide, by decide, by decide⟩

theorem test_witness_DecimalFlagIsOnlyPushed :
    (Instr.adcImmediate 0x01#8).mnemonic ≠ .php ∧ (Instr.adcImmediate 0x01#8).mnemonic ≠ .brk := by decide

theorem test_witness_StepIgnoresTheDrawCounter :
    State.reset.params.ioModel = .storage ∧ State.reset.params.interruptsConnected = false := by decide

theorem test_witness_ResetSequence :
    State.unpowered.engine = .unpowered ∧ State.reset.engine ≠ .unpowered ∧ haltedState.engine ≠ .unpowered := by
  decide +kernel

theorem test_witness_ObservationNeedsAPoweredEngine :
    State.unpowered.observe = .error .registerFileAbsent ∧ State.reset.engine ≠ .unpowered := by decide

end Sys2Proof.Tests
end

/-! The observation port, and the independence of power-on from the register file it finds (10_state.md R42;
70_reset_and_hazards.md R331). -/

namespace Sys2Proof.Machine

open Sys2Proof.Config

theorem State.observe_unpowered {s : State} (h : s.engine = .unpowered) :
    s.observe = .error .registerFileAbsent := by
  simp only [State.observe, h]

theorem State.observe_powered {s : State} (h : s.engine ≠ .unpowered) :
    s.observe = .ok ⟨s.a, s.x, s.y, s.sp, s.pc, s.p⟩ := by
  cases he : s.engine with
  | unpowered => exact absurd he h
  | running => simp only [State.observe, he]
  | halted k => simp only [State.observe, he]

/-- The state with its whole register file replaced. -/
def State.withRegisters (s : State) (r : RegisterFile) : State :=
  { s with a := r.a, x := r.x, y := r.y, sp := r.sp, pc := r.pc, p := r.p }

/-- Storage's power-on neither reads nor writes a register. -/
theorem State.storagePowerOn_withRegisters (s : State) (r : RegisterFile) :
    (s.withRegisters r).storagePowerOn = s.storagePowerOn.withRegisters r :=
  (apply_ite (State.withRegisters · r) (s.storageReady = true) s ((s.setMem []).setStorageReady true)).symm

/-- A memory write neither reads nor writes PC. -/
theorem State.memWrite_setPc (s : State) (pc : Word) (a : Word) (v : Byte) :
    (s.setPc pc).memWrite a v = (s.memWrite a v).setPc pc := by
  have hmem : ((s.setPc pc).memWrite a v).mem = (s.memWrite a v).mem :=
    (State.memWrite_mem _ a v).trans (State.memWrite_mem s a v).symm
  rw [State.memWrite_eq, hmem, State.memWrite_eq s]
  rfl

/-- What power-on leaves before it loads PC: A, X, Y, S and P written, and the two APU bytes cleared. -/
def State.powerOnBeforePc (s : State) (m : MemoryMode) : State :=
  (((((((s.storagePowerOn.setMode m).setA 0x00#8).setX 0x00#8).setY 0x00#8).setSp 0xFD#8).setP
    (Status.ofByte s.params.pPowerOn)).memWrite 0x4015#16 0x00#8).memWrite 0x4017#16 0x00#8

/-- Power-on ends by loading PC from the reset vector, which is in no I/O window. -/
theorem State.powerOn_eq (s : State) (m : MemoryMode) :
    s.powerOn m =
      (((s.powerOnBeforePc m).setPc
        (wordOf ((s.powerOnBeforePc m).peek 0xFFFC#16) ((s.powerOnBeforePc m).peek 0xFFFD#16))).setNmiPending
          false).setEngine .running := by
  simp only [State.powerOn]
  rw [State.read16_notIo _ (by decide) (by decide)]
  rfl

/-- Of the registers found, only PC is still there when power-on comes to load it. -/
theorem State.powerOnBeforePc_withRegisters (s : State) (r : RegisterFile) (m : MemoryMode) :
    (s.withRegisters r).powerOnBeforePc m = (s.powerOnBeforePc m).setPc r.pc := by
  rw [State.powerOnBeforePc, State.storagePowerOn_withRegisters, State.powerOnBeforePc, ← State.memWrite_setPc,
    ← State.memWrite_setPc]
  rfl

/-- Power-on does not depend on the registers it finds. -/
theorem State.powerOn_withRegisters (s : State) (r : RegisterFile) (m : MemoryMode) :
    (s.withRegisters r).powerOn m = s.powerOn m := by
  rw [State.powerOn_eq, State.powerOnBeforePc_withRegisters, State.powerOn_eq]
  rfl

/-- Settles O58: the engine state decides whether the port answers, and power-on overwrites every register it finds. -/
theorem observationNeedsAPoweredEngine : Obligations.ObservationNeedsAPoweredEngine :=
  ⟨fun _ => ⟨State.observe_unpowered, State.observe_powered⟩,
    fun s m a x y sp pc p => congrArg State.observe (s.powerOn_withRegisters ⟨a, x, y, sp, pc, p⟩ m)⟩

end Sys2Proof.Machine

/-! The memory operations: the MTU's map, what reads and writes do to Storage, its power-on, and the stack page
(20_memory.md R51 to R68). -/

namespace Sys2Proof.Machine

open Sys2Proof.Config

/-! ### The translation of addresses -/

/-- An address folded into a window that ends at or below 65536 is the window's base and the residue, without a wrap. -/
theorem toNat_add_mod {base size : Word} (nonempty : 0 < size.toNat) (fits : base.toNat + size.toNat ≤ 65536)
    (a : Word) : (base + a % size).toNat = base.toNat + a.toNat % size.toNat := by
  have residue : a.toNat % size.toNat < size.toNat := Nat.mod_lt _ nonempty
  rw [BitVec.toNat_add, BitVec.toNat_umod, Nat.mod_eq_of_lt (by omega)]

/-- The map of R51 in numbers. -/
theorem translateAddr_toNat (a : Word) (m : MemoryMode) :
    (translateAddr a m).toNat =
      if a.toNat ≤ 0x1FFF then a.toNat % 2048
      else if a.toNat ≤ 0x3FFF then 0x2000 + a.toNat % 8
      else if 0x8000 ≤ a.toNat ∧ m = .nrom128 then 0x8000 + a.toNat % 0x4000
      else a.toNat := by
  have register : (0x2000#16 + a % 8#16).toNat = 0x2000 + a.toNat % 8 := toNat_add_mod (by decide) (by decide) a
  have prg : (0x8000#16 + a % 0x4000#16).toNat = 0x8000 + a.toNat % 0x4000 := toNat_add_mod (by decide) (by decide) a
  simp only [translateAddr, apply_ite BitVec.toNat, register, prg]
  rfl

/-- Only NROM128 folds the PRG window. -/
theorem translateAddr_nrom256 {a : Word} (h : 0x4000 ≤ a.toNat) : translateAddr a .nrom256 = a := by
  apply BitVec.eq_of_toNat_eq
  rw [translateAddr_toNat, if_neg (by omega), if_neg (by omega), if_neg (by simp)]

/-- Below the PRG window the map does not read the mode. -/
theorem translateAddr_below_prg {a : Word} (h : a.toNat < 0x8000) (m m' : MemoryMode) :
    translateAddr a m = translateAddr a m' := by
  have notPrg (k : MemoryMode) : ¬(0x8000 ≤ a.toNat ∧ k = .nrom128) := by omega
  apply BitVec.eq_of_toNat_eq
  rw [translateAddr_toNat, translateAddr_toNat, if_neg (notPrg m), if_neg (notPrg m')]

/-- Settles O8: the map in numbers, and its two consequences for the mode. -/
theorem translationFollowsTheMap : Obligations.TranslationFollowsTheMap :=
  fun a m => ⟨translateAddr_toNat a m, translateAddr_nrom256, fun h => translateAddr_below_prg h _ _⟩

/-- The three windows translate into disjoint ranges of offsets, so addresses share an offset only inside one window. -/
theorem translateAddr_eq_iff_aliases (a b : Word) (m : MemoryMode) :
    translateAddr a m = translateAddr b m ↔ Aliases m a.toNat b.toNat := by
  rw [← BitVec.toNat_inj, translateAddr_toNat, translateAddr_toNat, Aliases]
  cases m with
  | nrom128 =>
    simp only [and_true, true_and]
    split_ifs <;> omega
  | nrom256 =>
    simp only [reduceCtorEq, and_false, false_and, or_false, if_false]
    split_ifs <;> omega

/-! ### Memory writes -/

/-- A write that R56 and R61 let through stores its byte at the translated offset. -/
theorem State.memWrite_storageRead_of_writable {s : State} {a : Word} (h : s.Writable a) (v : Byte) (o : Word) :
    (s.memWrite a v).storageRead o = if o = translateAddr a s.mode then v else s.storageRead o := by
  obtain ⟨ready, unprotected⟩ := h
  have stores : ¬((0x8000#16 ≤ a ∧ s.params.prgWritable = false) ∨ s.storageReady = false) := by
    rw [ready]
    rintro (⟨prg, notWritable⟩ | notReady)
    · exact unprotected.elim (BitVec.not_lt.mpr prg) (by simp [notWritable])
    · cases notReady
  rw [State.memWrite_storageRead, if_neg stores]
  simp only [eq_comm]

/-- Settles O9: aliases are equal translations, and a write is seen at its translated offset. -/
theorem aliasesShareAByte : Obligations.AliasesShareAByte := by
  refine ⟨translateAddr_eq_iff_aliases, fun s a b v writable same => ?_⟩
  rw [State.peek, State.memWrite_mode, State.memWrite_storageRead_of_writable writable, if_pos same.symm]

/-- A write to a protected PRG byte does nothing. -/
theorem State.memWrite_protected {s : State} {a : Word} (prg : 0x8000 ≤ a.toNat)
    (notWritable : s.params.prgWritable = false) (v : Byte) : s.memWrite a v = s :=
  if_pos ⟨prg, notWritable⟩

/-- Settles O10: a write changes Storage alone, there one byte, and nothing where PRG is protected. -/
theorem writeStoresOneByte : Obligations.WriteStoresOneByte :=
  fun s a v => ⟨s.memWrite_eq a v, fun h => State.memWrite_storageRead_of_writable h v,
    fun prg notWritable => State.memWrite_protected prg notWritable v⟩

/-! ### Memory reads -/

/-- The I/O windows of R57 in numbers. -/
theorem isIoWindow_eq_true_iff (a : Word) : isIoWindow a = true ↔ 0x2000 ≤ a.toNat ∧ a.toNat ≤ 0x401F := by
  rw [isIoWindow, Bool.and_eq_true, decide_eq_true_eq, decide_eq_true_eq]
  rfl

/-- A read of an I/O window under IO_MODEL = draw takes the next free byte (R57). -/
theorem State.memRead_draw {s : State} (draw : s.params.ioModel = .draw) {a : Word} (io : isIoWindow a = true) :
    s.memRead a = (ioDraw s.drawIndex, s.setDrawIndex (s.drawIndex + 1)) :=
  if_pos ⟨draw, io⟩

/-- Settles O11: a stored byte in every mode outside the I/O windows, inside them by the I/O model. -/
theorem readHasNoSideEffect : Obligations.ReadHasNoSideEffect := by
  refine fun s a => ⟨fun storage => s.memRead_storage storage a, fun outside => ?_, fun draw lo hi => ?_⟩
  · have notIo : ¬isIoWindow a = true := by rw [isIoWindow_eq_true_iff]; omega
    exact s.memRead_notIo (Bool.not_eq_true _ ▸ notIo)
  · exact State.memRead_draw draw ((isIoWindow_eq_true_iff a).mpr ⟨lo, hi⟩)

/-! ### Storage before and at its power-on (R61) -/

theorem State.storageRead_notReady {s : State} (h : s.storageReady = false) (o : Word) : s.storageRead o = 0#8 := by
  rw [State.storageRead, h, if_neg Bool.false_ne_true]

theorem State.storageWrite_notReady {s : State} (h : s.storageReady = false) (o : Word) (v : Byte) :
    s.storageWrite o v = s := by
  rw [State.storageWrite, h, if_neg Bool.false_ne_true]

/-- A memory write is a Storage write or nothing, and before power-on both are nothing. -/
theorem State.memWrite_notReady {s : State} (h : s.storageReady = false) (a : Word) (v : Byte) :
    s.memWrite a v = s := by
  rw [State.memWrite, State.storageWrite_notReady h, ite_self]

theorem State.storagePowerOn_notReady {s : State} (h : s.storageReady = false) :
    s.storagePowerOn = (s.setMem []).setStorageReady true := by
  rw [State.storagePowerOn, h, if_neg Bool.false_ne_true]

theorem State.storagePowerOn_ready {s : State} (h : s.storageReady = true) : s.storagePowerOn = s :=
  if_pos h

/-- The zero-fill of power-on. -/
theorem State.storageRead_storagePowerOn {s : State} (h : s.storageReady = false) (o : Word) :
    s.storagePowerOn.storageRead o = 0#8 := by
  rw [State.storagePowerOn_notReady h, State.storageRead_ready _ rfl]
  exact Memory.get_nil _

/-- Settles O12: no effect and zeros before power-on, the zero-fill, and no effect of a second one. -/
theorem storageBeforeAndAtPowerOn : Obligations.StorageBeforeAndAtPowerOn := by
  refine fun s => ⟨fun notReady => ⟨State.storageRead_notReady notReady, State.storageWrite_notReady notReady,
    State.memWrite_notReady notReady, ?_, State.storageRead_storagePowerOn notReady⟩, State.storagePowerOn_ready⟩
  rw [State.storagePowerOn_notReady notReady]
  rfl

/-! ### The stack page -/

theorem stackAddr_toNat (b : Byte) : (stackAddr b).toNat = 0x0100 + b.toNat := by
  rw [stackAddr, zext]
  bv_omega

/-- R68's slot in numbers: the stack pointer wraps, not the address. -/
theorem stackAddr_succ (b : Byte) : stackAddr (b + 1#8) = BitVec.ofNat 16 (0x0100 + (b.toNat + 1) % 256) := by
  apply BitVec.eq_of_toNat_eq
  rw [stackAddr_toNat, BitVec.toNat_add, BitVec.toNat_ofNat, BitVec.toNat_ofNat]
  omega

/-- A pull reads the slot the push before it wrote, and puts S back. -/
theorem State.pull_push {s : State} (h : s.storageReady = true) (v : Byte) :
    (s.push v).pull = (v, s.setMem (s.push v).mem) := by
  rw [State.pull_eq, State.push_sp, BitVec.sub_add_cancel, State.push_storageRead s v _ h, if_pos rfl, State.push_eq]
  rfl

/-- Settles O14: a push and a pull in numbers, and their round trip. -/
theorem pushAndPullUseTheStackPage : Obligations.PushAndPullUseTheStackPage := by
  refine fun s v => ⟨?_, fun ready o => ?_, ?_, fun ready => State.pull_push ready v⟩
  · have decrement : s.sp - 1#8 = BitVec.ofNat 8 (s.sp.toNat + 255) := by bv_omega
    rw [← decrement]
    exact s.push_eq v
  · have slot : stackAddr s.sp = o ↔ o.toNat = 0x0100 + s.sp.toNat := by
      rw [← BitVec.toNat_inj, stackAddr_toNat, eq_comm]
    rw [State.push_storageRead s v o ready]
    simp only [slot]
  · have increment : s.sp + 1#8 = BitVec.ofNat 8 (s.sp.toNat + 1) := by bv_omega
    rw [← stackAddr_succ, ← increment]
    exact s.pull_eq

end Sys2Proof.Machine

/-! The encoding: what the decoder answers for each buffer, the lengths of instructions, and the unpopulated opcodes
(30_encoding.md R82 to R88). -/

namespace Sys2Proof

/-! ### The decoder's errors and its result (R84, R86) -/

/-- An opcode with no dispatch entry is refused whatever follows it. -/
theorem describe_of_dispatch_none {op : Byte} (h : dispatch op = none) (rest : List Byte) :
    describe (op :: rest) = .error .unknownOpcode := by
  simp only [describe, h]

theorem describe_of_short {op : Byte} {e : DispatchEntry} (h : dispatch op = some e) {rest : List Byte}
    (short : rest.length + 1 < e.mode.length) : describe (op :: rest) = .error .truncatedBuffer := by
  simp only [describe, h, if_pos short]

theorem describe_of_complete {op : Byte} {e : DispatchEntry} (h : dispatch op = some e) {rest : List Byte}
    (complete : e.mode.length ≤ rest.length + 1) :
    describe (op :: rest) = .ok ⟨op, e.mode.length, operandOf e.mode.length rest⟩ := by
  simp only [describe, h, if_neg (Nat.not_lt.mpr complete)]

/-- An error of the description is the error of the decoder. -/
theorem decode_of_describe_error {bytes : List Byte} {k : DecodeError} (h : describe bytes = .error k) :
    decode bytes = .error k := by
  simp only [decode, h]

/-- A 1-byte instruction has operand 0, whatever follows its opcode. -/
theorem operandOf_one (rest : List Byte) : operandOf 1 rest = 0#16 := rfl

/-- The operand of a 2-byte instruction is the byte after its opcode. -/
theorem operandOf_two {rest : List Byte} (h : 2 ≤ rest.length + 1) :
    ∃ b1 tail, rest = b1 :: tail ∧ (operandOf 2 rest).toNat = b1.toNat := by
  match rest, h with
  | b1 :: tail, _ => exact ⟨b1, tail, rfl, BitVec.toNat_setWidth_of_le (by decide)⟩

/-- The operand of a 3-byte instruction is assembled low byte first. -/
theorem operandOf_three {rest : List Byte} (h : 3 ≤ rest.length + 1) :
    ∃ b1 b2 tail, rest = b1 :: b2 :: tail ∧ (operandOf 3 rest).toNat = b1.toNat + 256 * b2.toNat := by
  match rest, h with
  | b1 :: b2 :: tail, _ => exact ⟨b1, b2, tail, rfl, Machine.wordOf_toNat b1 b2⟩

/-- Settles O4: the decoder's answer by dispatch entry and buffer length, and its operand by instruction length. -/
theorem decoderContract : Obligations.DecoderContract := by
  refine ⟨rfl, fun op rest => ⟨fun h => describe_of_dispatch_none h rest, fun e h =>
    ⟨describe_of_short h, fun complete => ⟨_, describe_of_complete h complete, ?_, ?_, ?_⟩⟩⟩⟩
  · intro one
    rw [one, operandOf_one]
    rfl
  · intro two
    rw [two] at complete ⊢
    exact operandOf_two complete
  · intro three
    rw [three] at complete ⊢
    exact operandOf_three complete

/-! ### Lengths (R82, R87) -/

theorem instructionWidth_of_dispatch_some {op : Byte} {e : DispatchEntry} (h : dispatch op = some e) :
    instructionWidth op = e.mode.length := by
  simp only [instructionWidth, h]

theorem instructionWidth_of_dispatch_none {op : Byte} (h : dispatch op = none) : instructionWidth op = 1 := by
  simp only [instructionWidth, h]

/-- The width read off an instruction's opcode alone is the instruction's length. -/
theorem instructionWidth_opcode (i : Instr) : instructionWidth i.opcode = i.length := by
  obtain ⟨e, he, -, hmode, -⟩ := dispatch_opcode i
  rw [instructionWidth_of_dispatch_some he, hmode, Instr.length]

/-- The opcode and the operand bytes fill the length of the instruction's mode. -/
theorem encode_length (i : Instr) : (encode i).length = i.length := by
  rw [encode, List.length_cons]
  rcases i.mode.length_cases with h | h | h <;> rw [Instr.length, h] <;> rfl

/-- Every description the decoder answers has a populated opcode and the size of that opcode's mode. -/
theorem describe_size {bytes : List Byte} {d : InstructionDescription} (h : describe bytes = .ok d) :
    ∃ e, dispatch d.opcode = some e ∧ d.size = e.mode.length := by
  cases bytes with
  | nil => cases h
  | cons op rest =>
    obtain ⟨-, unknown⟩ | ⟨e, -, -, truncated⟩ | ⟨e, he, -, ok⟩ := describe_cons op rest
    · cases unknown.symm.trans h
    · cases truncated.symm.trans h
    · cases ok.symm.trans h
      exact ⟨e, he, rfl⟩

/-- Settles O6: the table of R82, the sizes the decoder answers, and `instruction_width` against both. -/
theorem lengthsFollowModes : Obligations.LengthsFollowModes :=
  ⟨rfl, rfl, rfl, rfl, rfl, rfl, rfl, rfl, rfl, rfl, rfl, rfl, rfl, fun _ _ => describe_size,
    fun _ _ => instructionWidth_of_dispatch_some, fun _ => instructionWidth_of_dispatch_none,
    fun i => ⟨rfl, instructionWidth_opcode i, encode_length i⟩⟩

/-! ### The unpopulated opcodes (R85, R88) -/

/-- The opcodes whose slot of the dispatch table is empty, in ascending order. -/
def unpopulatedOpcodes : List Byte :=
  ((List.range 256).map (BitVec.ofNat 8)).filter fun op => (dispatch op).isNone

theorem mem_unpopulatedOpcodes (op : Byte) : op ∈ unpopulatedOpcodes ↔ dispatch op = none := by
  have isByte : op ∈ (List.range 256).map (BitVec.ofNat 8) :=
    List.mem_map.mpr ⟨op.toNat, List.mem_range.mpr op.isLt, by rw [BitVec.ofNat_toNat, BitVec.setWidth_eq]⟩
  rw [unpopulatedOpcodes, List.mem_filter, Option.isNone_iff_eq_none]
  exact and_iff_right isByte

/-- Settles O5: the list of R88 is the table's own list of empty slots, and the decoder refuses an empty slot. -/
theorem unpopulatedOpcodesFail : Obligations.UnpopulatedOpcodesFail := by
  unfold Obligations.UnpopulatedOpcodesFail
  intro listed
  have listed_eq : listed = unpopulatedOpcodes := by decide
  refine ⟨rfl, fun op => ?_, fun op rest mem => ?_⟩
  · rw [listed_eq, mem_unpopulatedOpcodes]
  · rw [listed_eq, mem_unpopulatedOpcodes] at mem
    have unknown := describe_of_dispatch_none mem rest
    exact ⟨decode_of_describe_error unknown, unknown⟩

end Sys2Proof

/-! The engine: the encodings of a mnemonic, the addresses the resolver computes, JMP, the three bytes of a fetch, what
a step and a run of steps can answer (40_engine.md R101 to R107, R119, R120, R125; 43_control_flow.md R189;
60_exceptions.md R302, R304). -/

namespace Sys2Proof

/-! ### What the decoder makes of three bytes, and the encodings of a mnemonic -/

theorem decode_of_dispatch_none {op : Byte} (h : dispatch op = none) (rest : List Byte) :
    decode (op :: rest) = .error .unknownOpcode :=
  decode_of_describe_error (describe_of_dispatch_none h rest)

theorem decode_of_complete {op : Byte} {e : DispatchEntry} (h : dispatch op = some e) {rest : List Byte}
    (complete : e.mode.length ≤ rest.length + 1) :
    decode (op :: rest) = .ok (e.build (operandOf e.mode.length rest)) := by
  simp only [decode, describe_of_complete h complete, h]

/-- Three bytes are enough for every mode, so only an empty dispatch slot can make their decoding fail. -/
theorem decode_three_error_iff (op b1 b2 : Byte) (k : DecodeError) :
    decode [op, b1, b2] = .error k ↔ dispatch op = none ∧ k = .unknownOpcode := by
  cases h : dispatch op with
  | none =>
    rw [decode_of_dispatch_none h, Except.error.injEq]
    simp only [true_and, eq_comm]
  | some e =>
    have complete : e.mode.length ≤ 3 := by
      rcases e.mode.length_cases with one | two | three <;> omega
    rw [decode_of_complete (rest := [b1, b2]) h complete]
    simp only [reduceCtorEq, false_and]

/-- The forms of a mnemonic can be read off the dispatch table, opcode by opcode. -/
theorem hasForms_of_dispatch {m : Mnemonic} {forms : List (Byte × Mode)}
    (h : ∀ op, (dispatch op).all (fun e => decide (e.mnemonic = m ↔ (op, e.mode) ∈ forms)) = true) :
    HasForms m forms := by
  intro i
  obtain ⟨e, he, hmnemonic, hmode, -⟩ := dispatch_opcode i
  have slot := h i.opcode
  rwa [he, Option.all_some, decide_eq_true_eq, hmnemonic, hmode] at slot

end Sys2Proof

namespace Sys2Proof.Machine

open Sys2Proof.Config

/-! ### Reads that give stored bytes -/

theorem isIoWindow_eq_false_iff (a : Word) : isIoWindow a = false ↔ a.toNat < 0x2000 ∨ 0x401F < a.toNat := by
  rw [← Bool.not_eq_true, isIoWindow_eq_true_iff]
  omega

/-- The I/O model or the address makes a read at `a` one of the stored byte (R55, R57). -/
abbrev State.ReadsStored (s : State) (a : Word) : Prop :=
  s.params.ioModel = .storage ∨ (a.toNat < 0x2000 ∨ 0x401F < a.toNat)

theorem State.memRead_stored {s : State} {a : Word} (h : s.ReadsStored a) : s.memRead a = (s.peek a, s) := by
  rcases h with storage | outside
  · exact s.memRead_storage storage a
  · exact s.memRead_notIo ((isIoWindow_eq_false_iff a).mpr outside)

theorem State.read16_stored {s : State} {lo hi : Word} (hlo : s.ReadsStored lo) (hhi : s.ReadsStored hi) :
    s.read16 lo hi = (wordOf (s.peek lo) (s.peek hi), s) := by
  simp only [State.read16, State.memRead_stored hlo, State.memRead_stored hhi]

/-! ### Effective addresses (R102 to R107) -/

theorem zext_toNat (b : Byte) : (zext b).toNat = b.toNat :=
  BitVec.toNat_setWidth_of_le (by decide)

theorem zext_eq_ofNat (b : Byte) : zext b = BitVec.ofNat 16 b.toNat := by
  rw [← zext_toNat, BitVec.ofNat_toNat, BitVec.setWidth_eq]

/-- A zero-page address names the Storage offset of the same number. -/
theorem State.peek_zext (s : State) (b : Byte) : s.peek (zext b) = s.storageRead (BitVec.ofNat 16 b.toNat) := by
  rw [State.peek, translateAddr_zext, zext_eq_ofNat]

/-- A zero-page pointer in numbers: its high byte comes from page 0 too. -/
theorem State.zeroPagePointer_toNat (s : State) (b : Byte) :
    (s.zeroPagePointer b).1.toNat =
      (s.storageRead (BitVec.ofNat 16 b.toNat)).toNat +
        256 * (s.storageRead (BitVec.ofNat 16 ((b.toNat + 1) % 256))).toNat := by
  rw [State.zeroPagePointer_eq, wordOf_toNat, State.peek_zext, State.peek_zext, BitVec.toNat_add]
  rfl

/-- Settles O15: the indices wrap in their own width, the pointers within page 0. -/
theorem effectiveAddressesByMode : Obligations.EffectiveAddressesByMode := by
  intro s b w at_
  refine ⟨zext_toNat b, rfl, ?zeroPageX, ?zeroPageY, ?absoluteX, ?absoluteY, ?indexedIndirect, ?indirectIndexed,
    fun mode => s.resolve_pure mode w⟩
  case zeroPageX | zeroPageY => simp only [State.resolve, loByte_zext, zext_toNat, BitVec.toNat_add]
  case absoluteX | absoluteY => simp only [State.resolve, BitVec.toNat_add, zext_toNat]
  case indexedIndirect =>
    simp only [State.resolve, loByte_zext, State.zeroPagePointer_toNat, BitVec.toNat_add]
    rfl
  case indirectIndexed =>
    simp only [State.resolve, loByte_zext, BitVec.toNat_add, State.zeroPagePointer_toNat, zext_toNat]
    rfl

/-! ### JMP (R104, R189) -/

theorem exec_jmpIndirectAbsolute (s : State) (ptr : Word) :
    exec (.jmpIndirectAbsolute ptr) s =
      .next ((s.resolve .indirectAbsolute ptr).2.setPc (s.effectiveAddress .indirectAbsolute ptr)) := rfl

/-- IndirectAbsolute with the page-boundary bug in numbers. -/
theorem State.resolve_indirectAbsolute (s : State) (ptr : Word) :
    s.resolve .indirectAbsolute ptr =
      s.read16 ptr (if ptr.toNat % 256 = 255 then ptr - 255#16 else ptr + 1#16) := by
  rw [← pointerHighAddr_eq]
  rfl

/-- Settles O32: PC is the operand, or the pointer read within one page. -/
theorem jumpsSetPc : Obligations.JumpsSetPc := by
  refine ⟨hasForms_of_dispatch (by decide), fun _ _ => rfl, fun s ptr =>
    ⟨⟨(s.resolve .indirectAbsolute ptr).2.drawIndex, ?_⟩, ?_⟩⟩
  · rw [exec_jmpIndirectAbsolute, State.resolve_state]
    rfl
  intro hi _
  refine ⟨s.resolve_indirectAbsolute ptr, fun stored => ?_⟩
  have pointer : s.resolve .indirectAbsolute ptr = (wordOf (s.peek ptr) (s.peek hi), s) :=
    (s.resolve_indirectAbsolute ptr).trans
      (State.read16_stored (stored.imp_right And.left) (stored.imp_right And.right))
  rw [State.effectiveAddress, pointer]
  exact ⟨rfl, wordOf_toNat _ _⟩

/-! ### What a step answers, by the engine state (R100, R119, R120) -/

section
variable {s : State}

theorem step_unpowered (h : s.engine = .unpowered) : step s = .fault .notPoweredOn := by
  simp only [step, State.plan, h]

theorem step_halted {k : DecodeError} (h : s.engine = .halted k) : step s = .fault (.halted k s) := by
  simp only [step, State.plan, h]

theorem step_of_interruptDue (running : s.engine = .running) {src : Interrupt}
    (due : s.sampleInputs.interruptDue = some src) : step s = .next (s.sampleInputs.enterInterrupt src) := by
  simp only [step, State.plan, running, State.runningPlan, due]

theorem step_of_decode_ok (running : s.engine = .running) (noInterrupt : s.sampleInputs.interruptDue = none)
    {i : Instr} (decoded : decode s.sampleInputs.fetch.1 = .ok i) : step s = exec i s.sampleInputs.fetch.2 := by
  simp only [step, State.plan, running, State.runningPlan, noInterrupt, State.fetchPlan, decoded]

theorem step_of_decode_error (running : s.engine = .running) (noInterrupt : s.sampleInputs.interruptDue = none)
    {k : DecodeError} (undecoded : decode s.sampleInputs.fetch.1 = .error k) :
    step s = .fault (.halted k (s.sampleInputs.fetch.2.setEngine (.halted k))) := by
  simp only [step, State.plan, running, State.runningPlan, noInterrupt, State.fetchPlan, undecoded]

theorem State.hostReset_unpowered (h : s.engine = .unpowered) : s.hostReset = .error .notPoweredOn := by
  simp only [State.hostReset, h]

/-- The three bytes of a fetch fail to decode only where the first one has no dispatch entry. -/
theorem State.decode_fetch_error_iff (s : State) (k : DecodeError) :
    decode s.fetch.1 = .error k ↔ dispatch (s.memRead s.pc).1 = none ∧ k = .unknownOpcode :=
  decode_three_error_iff _ _ _ k

/-- Everything a step of a running engine can answer: the next state of an interrupt or of an instruction, or the halt
at an unpopulated opcode. -/
theorem step_running_cases (running : s.engine = .running) :
    (∃ t, step s = .next t) ∨
    (s.sampleInputs.interruptDue = none ∧ dispatch (s.sampleInputs.memRead s.sampleInputs.pc).1 = none ∧
      step s = .fault (.halted .unknownOpcode (s.sampleInputs.fetch.2.setEngine (.halted .unknownOpcode)))) := by
  cases due : s.sampleInputs.interruptDue with
  | some src => exact .inl ⟨_, step_of_interruptDue running due⟩
  | none =>
    cases decoded : decode s.sampleInputs.fetch.1 with
    | ok i =>
      obtain ⟨t, ht, -⟩ := exec_fields i s.sampleInputs.fetch.2
      exact .inl ⟨t, (step_of_decode_ok running due decoded).trans ht⟩
    | error k =>
      obtain ⟨unpopulated, rfl⟩ := (State.decode_fetch_error_iff _ k).mp decoded
      exact .inr ⟨rfl, unpopulated, step_of_decode_error running due decoded⟩

/-- A running engine faults in one way only. -/
theorem step_running_fault (running : s.engine = .running) {f : Fault} (h : step s = .fault f) :
    dispatch (s.sampleInputs.memRead s.sampleInputs.pc).1 = none ∧
      f = .halted .unknownOpcode (s.sampleInputs.fetch.2.setEngine (.halted .unknownOpcode)) := by
  obtain ⟨t, next⟩ | ⟨-, unpopulated, halts⟩ := step_running_cases running
  · cases next.symm.trans h
  · cases halts.symm.trans h
    exact ⟨unpopulated, rfl⟩

theorem step_ne_refused (s : State) (r : Refusal) : step s ≠ .refused r := by
  intro h
  cases engine : s.engine with
  | unpowered => cases (step_unpowered engine).symm.trans h
  | halted k => cases (step_halted engine).symm.trans h
  | running =>
    obtain ⟨t, next⟩ | ⟨-, -, halts⟩ := step_running_cases engine
    · cases next.symm.trans h
    · cases halts.symm.trans h

/-- A step that completes leaves the engine running. -/
theorem step_next_running {t : State} (h : step s = .next t) : t.engine = .running := by
  obtain ⟨running, ⟨src, -, rfl⟩ | ⟨-, i, -, hexec⟩⟩ := step_next_cases h
  · rw [State.enterInterrupt_engine, State.sampleInputs_engine, running]
  · obtain ⟨u, hu, frame⟩ := exec_fields i s.sampleInputs.fetch.2
    cases hu.symm.trans hexec
    rw [frame, State.fetch_engine, State.sampleInputs_engine, running]

end

/-- Settles O46: a stopped engine answers its error before it samples or reads anything. -/
theorem stoppedEngineDoesNothing : Obligations.StoppedEngineDoesNothing := by
  refine fun s => ⟨fun unpowered => ?_, fun k halted => ?_⟩
  · have stops := step_unpowered unpowered
    exact ⟨stops, congrArg (stateAfter s) stops, State.hostReset_unpowered unpowered⟩
  · have stops := step_halted halted
    exact ⟨stops, congrArg (stateAfter s) stops⟩

/-! ### The fetch (R101) and the halt at an unpopulated opcode (R119, R302) -/

theorem ofNat_toNat_add (w : Word) (n : Nat) : BitVec.ofNat 16 (w.toNat + n) = w + BitVec.ofNat 16 n := by
  rw [BitVec.ofNat_add, BitVec.ofNat_toNat, BitVec.setWidth_eq]

/-- A fetch of stored bytes has no effect. -/
theorem State.fetch_stored {s : State} (h0 : s.ReadsStored s.pc) (h1 : s.ReadsStored (s.pc + 1#16))
    (h2 : s.ReadsStored (s.pc + 2#16)) :
    s.fetch = ([s.peek s.pc, s.peek (s.pc + 1#16), s.peek (s.pc + 2#16)], s) := by
  simp only [State.fetch, State.memRead_stored h0, State.memRead_stored h1, State.memRead_stored h2]

/-- Settles O47: three reads, of which the first alone decides whether the decoder fails. -/
theorem fetchAlwaysSuppliesThreeBytes : Obligations.FetchAlwaysSuppliesThreeBytes := by
  intro s a1 a2 _
  have ha1 : a1 = s.pc + 1#16 := ofNat_toNat_add s.pc 1
  have ha2 : a2 = s.pc + 2#16 := ofNat_toNat_add s.pc 2
  rw [ha1, ha2]
  refine ⟨⟨_, _, _, rfl, rfl, rfl, rfl⟩, rfl, ⟨_, s.fetch_state⟩, fun stored => ?_, fun truncated => ?_,
    fun running t halts => ?_⟩
  · exact State.fetch_stored (stored.imp_right fun h => h.1) (stored.imp_right fun h => h.2.1)
      (stored.imp_right fun h => h.2.2)
  · cases ((s.decode_fetch_error_iff _).mp truncated).2
  · cases (step_running_fault running halts).2

/-- A step at an unpopulated opcode leaves the state its fetch left, halted. -/
theorem step_of_unpopulated {s : State} (running : s.engine = .running)
    (noInterrupt : s.sampleInputs.interruptDue = none)
    (unpopulated : dispatch (s.sampleInputs.memRead s.sampleInputs.pc).1 = none) :
    step s = .fault (.halted .unknownOpcode (s.sampleInputs.fetch.2.setEngine (.halted .unknownOpcode))) :=
  step_of_decode_error running noInterrupt ((State.decode_fetch_error_iff _ _).mpr ⟨unpopulated, rfl⟩)

/-- Settles O45: the halt, its state where sampling and fetching have no effect, and that no other fault exists. -/
theorem unknownOpcodeHalts : Obligations.UnknownOpcodeHalts := by
  refine ⟨fun s running noInterrupt unpopulated => ⟨s.sampleInputs.fetch.2.drawIndex, ?_⟩,
    fun s running disconnected storage unpopulated => ?_, fun s f running faults => ?_⟩
  · rw [step_of_unpopulated running noInterrupt unpopulated, State.fetch_state]
    rfl
  · have sampled := s.sampleInputs_disconnected disconnected
    have halts := step_of_unpopulated running (by rw [sampled]; exact s.interruptDue_disconnected disconnected)
      (by rw [sampled, s.memRead_storage storage]; exact unpopulated)
    rw [halts, sampled, s.fetch_storage storage]
    rfl
  · obtain ⟨unpopulated, hf⟩ := step_running_fault running faults
    exact ⟨unpopulated, _, hf⟩

/-! ### Runs (R125) -/

section
variable {s : State}

theorem State.run_add_of_next {m : Nat} {t : State} (h : s.run m = .next t) (n : Nat) :
    s.run (m + n) = t.run n := by
  rw [State.run_add, h]

theorem State.run_add_of_fault {m : Nat} {f : Fault} (h : s.run m = .fault f) (n : Nat) :
    s.run (m + n) = .fault f := by
  rw [State.run_add, h]

/-- The last step of a run is a step of the state the run before it ended in. -/
theorem State.run_succ_of_next {n : Nat} {t : State} (h : s.run n = .next t) : s.run (n + 1) = step t := by
  rw [State.run_add_of_next h, State.run_one]

theorem State.run_ne_refused (s : State) (n : Nat) (r : Refusal) : s.run n ≠ .refused r := by
  induction n generalizing s with
  | zero => exact nofun
  | succ n ih =>
    cases first : step s with
    | next t => rw [State.run_of_next s first]; exact ih t
    | fault f => rw [State.run_of_fault s first]; exact nofun
    | refused r' => exact absurd first (step_ne_refused s r')

theorem State.run_succ_eq_next_iff (n : Nat) (t : State) :
    s.run (n + 1) = .next t ↔ ∃ u, s.run n = .next u ∧ step u = .next t := by
  refine ⟨fun h => ?_, fun ⟨u, before, last⟩ => (State.run_succ_of_next before).trans last⟩
  cases before : s.run n with
  | next u => exact ⟨u, rfl, (State.run_succ_of_next before).symm.trans h⟩
  | fault f => cases (State.run_add_of_fault before 1).symm.trans h
  | refused r => exact absurd before (s.run_ne_refused n r)

/-- A run ends in a fault exactly when one of its steps does. -/
theorem State.run_eq_fault_iff (n : Nat) (f : Fault) :
    s.run n = .fault f ↔ ∃ k u, k < n ∧ s.run k = .next u ∧ step u = .fault f := by
  constructor
  · intro h
    induction n with
    | zero => cases h
    | succ n ih =>
      cases before : s.run n with
      | next u => exact ⟨n, u, n.lt_succ_self, before, (State.run_succ_of_next before).symm.trans h⟩
      | fault f' =>
        cases (State.run_add_of_fault before 1).symm.trans h
        obtain ⟨k, u, hk, run⟩ := ih before
        exact ⟨k, u, Nat.lt_succ_of_lt hk, run⟩
      | refused r => exact absurd before (s.run_ne_refused n r)
  · rintro ⟨k, u, hk, before, faults⟩
    obtain ⟨m, rfl⟩ := Nat.exists_eq_add_of_le (Nat.succ_le_of_lt hk)
    exact State.run_add_of_fault ((State.run_succ_of_next before).trans faults) m

theorem State.run_next_running (running : s.engine = .running) {n : Nat} {t : State} (h : s.run n = .next t) :
    t.engine = .running := by
  cases n with
  | zero => cases h; exact running
  | succ n =>
    obtain ⟨u, -, last⟩ := (State.run_succ_eq_next_iff n t).mp h
    exact step_next_running last

theorem State.afterRun_of_next {n : Nat} {t : State} (h : s.run n = .next t) : s.afterRun n = t :=
  congrArg (stateAfter s) h

/-- The states a host finds after ever longer parts of a run that completes are the path of its steps. -/
theorem State.step_afterRun {n : Nat} {t : State} (h : s.run n = .next t) :
    ∀ k < n, step (s.afterRun k) = .next (s.afterRun (k + 1)) := by
  induction n generalizing t with
  | zero => exact nofun
  | succ n ih =>
    obtain ⟨u, before, last⟩ := (State.run_succ_eq_next_iff n t).mp h
    intro k hk
    rcases Nat.lt_succ_iff_lt_or_eq.mp hk with earlier | rfl
    · exact ih before k earlier
    · rw [State.afterRun_of_next before, State.afterRun_of_next h, last]

theorem State.run_of_path {path : Nat → State} (start : path 0 = s) {n : Nat}
    (steps : ∀ k < n, step (path k) = .next (path (k + 1))) : s.run n = .next (path n) := by
  induction n with
  | zero => rw [State.run_zero, start]
  | succ n ih =>
    have before := ih fun k hk => steps k (Nat.lt_succ_of_lt hk)
    exact (State.run_succ_of_next before).trans (steps n n.lt_succ_self)

end

/-- Settles O59: a run is the path of its steps up to the bound or to the first step that faults. -/
theorem runStopsAtHaltedOrTheBound : Obligations.RunStopsAtHaltedOrTheBound := by
  refine fun s n => ⟨fun t => ⟨fun h => ?_, ?_⟩, State.run_eq_fault_iff n, s.run_ne_refused n,
    fun running f h => ?_, fun t => State.afterRun_of_next⟩
  · exact ⟨s.afterRun, rfl, State.afterRun_of_next h, State.step_afterRun h⟩
  · rintro ⟨path, start, rfl, steps⟩
    exact State.run_of_path start steps
  · obtain ⟨k, u, -, before, faults⟩ := (State.run_eq_fault_iff n f).mp h
    obtain ⟨-, rfl⟩ := step_running_fault (State.run_next_running running before) faults
    exact ⟨_, rfl, congrArg (stateAfter s) h⟩

end Sys2Proof.Machine

/-! Arithmetic and compare: ADC, SBC, CMP, CPX and CPY over all their forms (41_arithmetic_compare.md R140 to R144). -/

namespace Sys2Proof.Machine

/-- An instruction on the Register kind path: its operation on M in a state that differs by the draw counter at most,
then the PC advance. -/
theorem exec_registerForm {i : Instr} {s : State} {op : Byte → State → State}
    (h : execByMnemonic i s = .next (s.registerForm i.mode i.operand op)) :
    ∃ d, exec i s = .next ((op (s.operandValue i.mode i.operand) (s.setDrawIndex d)).advance i.length) :=
  ⟨_, by rw [exec_eq_byMnemonic, h, State.registerForm_eq, Instr.length]⟩

/-! ### The sum and its flags (R140) -/

theorem addSum_eq (a m : Byte) (c : Bool) : addSum a m c = a.toNat + m.toNat + (if c then 1 else 0) := by
  cases c <;> rfl

/-- R140's bit 7 of `~(A ^ M) & (A ^ r)` compares signs: operands of like sign, a result of the other. -/
theorem addOverflow_eq (a m r : Byte) : addOverflow a m r = (a.msb == m.msb && r.msb != a.msb) := by
  have bits : addOverflow a m r = (!(a.msb ^^ m.msb) && (a.msb ^^ r.msb)) := by
    simp [addOverflow, BitVec.msb_eq_getLsbD_last]
  rw [bits]
  cases a.msb <;> cases m.msb <;> cases r.msb <;> rfl

/-- The one operation of ADC and SBC, for a result and a carry however they are computed. -/
theorem opAdc_eq {s : State} {m r : Byte} {c : Bool} (hr : addResult s.a m s.p.c = r)
    (hc : addCarry s.a m s.p.c = c) :
    opAdc m s = { s with
      a := r
      p := { s.p with n := r.msb, v := s.a.msb == m.msb && r.msb != s.a.msb, z := decide (r = 0#8), c := c } } := by
  rw [opAdc, Status.afterAdd, addOverflow_eq, hr, hc, BitVec.msb_eq_getLsbD_last r]
  rfl

/-- Settles O17: its forms share one operation, whose sum is R140's. -/
theorem adcAddsWithCarry : Obligations.AdcAddsWithCarry := by
  refine ⟨hasForms_of_dispatch (by decide), fun i s adc => ?_⟩
  intro m sum r
  have hsum : addSum s.a m s.p.c = sum := addSum_eq _ _ _
  obtain ⟨d, hexec⟩ := exec_registerForm (i := i) (s := s) (op := opAdc) (by simp only [execByMnemonic, adc])
  have hop := opAdc_eq (s := s.setDrawIndex d) (congrArg (BitVec.ofNat 8) hsum)
    (congrArg (fun n => decide (255 < n)) hsum)
  exact ⟨d, by rw [hexec, hop]; rfl⟩

/-! ### The sum with the complement (R141) -/

theorem complement_toNat (m : Byte) : (0xFF#8 - m).toNat = 255 - m.toNat := by
  bv_omega

theorem complement_eq_ofNat (m : Byte) : 0xFF#8 - m = BitVec.ofNat 8 (255 - m.toNat) := by
  rw [← complement_toNat, BitVec.ofNat_toNat, BitVec.setWidth_eq]

/-- The sum with the complement is the difference with borrow, above 256. -/
theorem addSum_complement (a m : Byte) (c : Bool) :
    (addSum a (0xFF#8 - m) c : Int) = a.toNat - m.toNat - ((if c then 0 else 1 : Nat) : Int) + 256 := by
  have := m.isLt
  rw [addSum_eq, complement_toNat]
  split_ifs <;> omega

theorem addResult_complement (a m : Byte) (c : Bool) :
    addResult a (0xFF#8 - m) c =
      BitVec.ofInt 8 ((a.toNat : Int) - m.toNat - ((if c then 0 else 1 : Nat) : Int)) := by
  rw [addResult, ← BitVec.ofInt_natCast, addSum_complement]
  apply BitVec.eq_of_toInt_eq
  rw [BitVec.toInt_ofInt, BitVec.toInt_ofInt]
  exact Int.add_bmod_right _ _

/-- The sum with the complement carries exactly when the subtraction needs no borrow. -/
theorem addCarry_complement (a m : Byte) (c : Bool) :
    addCarry a (0xFF#8 - m) c = decide (m.toNat + (if c then 0 else 1) ≤ a.toNat) := by
  have hsum := addSum_complement a m c
  rw [addCarry, decide_eq_decide]
  omega

/-- Settles O18: SBC is ADC's operation on the complement, whose sum is the difference above 256. -/
theorem sbcSubtractsWithBorrow : Obligations.SbcSubtractsWithBorrow := by
  refine ⟨hasForms_of_dispatch (by decide), fun i s sbc => ?_⟩
  intro m borrow r mc
  obtain ⟨d, hexec⟩ := exec_registerForm (i := i) (s := s) (op := opSbc) (by simp only [execByMnemonic, sbc])
  have hop : opSbc m (s.setDrawIndex d) = _ :=
    opAdc_eq (addResult_complement s.a m s.p.c) (addCarry_complement s.a m s.p.c)
  rw [complement_eq_ofNat] at hop
  exact ⟨d, by rw [hexec, hop]; rfl⟩

/-! ### Compares (R142 to R144) -/

theorem Status.afterCompare_eq (p : Status) (r m : Byte) :
    p.afterCompare r m =
      { p with n := (r - m).msb, z := decide (r = m), c := decide (m.toNat ≤ r.toNat) } := by
  rw [Status.afterCompare, BitVec.msb_eq_getLsbD_last]
  rfl

/-- An instruction whose operation compares `r` with M writes N, Z and C, and advances PC. -/
theorem exec_compare {i : Instr} {s : State} {op : Byte → State → State} (r : Byte)
    (h : execByMnemonic i s = .next (s.registerForm i.mode i.operand op))
    (hop : ∀ m d, op m (s.setDrawIndex d) = (s.setDrawIndex d).setP (s.p.afterCompare r m)) :
    ∃ d, exec i s = .next { s with
      p := { s.p with
        n := (r - s.operandValue i.mode i.operand).msb
        z := decide (r = s.operandValue i.mode i.operand)
        c := decide ((s.operandValue i.mode i.operand).toNat ≤ r.toNat) }
      pc := s.pc + BitVec.ofNat 16 i.length
      drawIndex := d } := by
  obtain ⟨d, hexec⟩ := exec_registerForm h
  exact ⟨d, by rw [hexec, hop, Status.afterCompare_eq]; rfl⟩

/-- Settles O20: the three compares are one operation on A, X or Y. -/
theorem comparesSetNZC : Obligations.ComparesSetNZC := by
  refine ⟨hasForms_of_dispatch (by decide), hasForms_of_dispatch (by decide), hasForms_of_dispatch (by decide),
    fun i s => ⟨fun cmp => ?_, fun cpx => ?_, fun cpy => ?_⟩⟩
  · exact exec_compare s.a (op := opCmp) (by simp only [execByMnemonic, cmp]) fun _ _ => rfl
  · exact exec_compare s.x (op := opCpx) (by simp only [execByMnemonic, cpx]) fun _ _ => rfl
  · exact exec_compare s.y (op := opCpy) (by simp only [execByMnemonic, cpy]) fun _ _ => rfl

end Sys2Proof.Machine

/-! Shifts and rotates: ASL, LSR, ROL and ROR on A and on memory (42_shift_rotate.md R160 to R163). -/

namespace Sys2Proof.Machine

/-! ### The path of a shift (R112, R115) -/

/-- The instruction completes with `r` in A or stored at the effective address, `c` the bit shifted out, and N and Z of
`r`: what the four operations have in common. -/
def ShiftsTo (i : Instr) (s : State) (r : Byte) (c : Bool) : Prop :=
  (i.mode = .accumulator → exec i s = .next { s with
    a := r
    p := { s.p with n := r.msb, z := decide (r = 0#8), c := c }
    pc := s.pc + BitVec.ofNat 16 i.length }) ∧
  (i.mode ≠ .accumulator → ∃ d, exec i s = .next { s with
    mem := (s.memWrite (s.effectiveAddress i.mode i.operand) r).mem
    p := { s.p with n := r.msb, z := decide (r = 0#8), c := c }
    pc := s.pc + BitVec.ofNat 16 i.length
    drawIndex := d })

theorem Status.afterShift_eq (p : Status) (r : Byte) (c : Bool) :
    p.afterShift r c = { p with n := r.msb, z := decide (r = 0#8), c := c } := by
  rw [Status.afterShift, Status.setNZ, BitVec.msb_eq_getLsbD_last]

/-- The operand of a shift is A or in memory. -/
theorem Instr.mode_ne_immediate_of_shift {i : Instr} (h : i.mnemonic ∈ ([.asl, .lsr, .rol, .ror] : List Mnemonic)) :
    i.mode ≠ .immediate := by
  intro immediate
  have kind : i.kind = .memory := by
    have := Instr.kind_of_mnemonic i
    simp only [List.mem_cons, List.not_mem_nil, or_false] at h
    rcases h with h | h | h | h <;> simpa only [h, immediate, reduceCtorEq, if_false] using this
  exact (Instr.mode_of_memory kind).2 immediate

/-- An instruction that runs a shift operation on A or on memory does what the operation says; the operation reads no
draw counter. -/
theorem exec_shift {i : Instr} {s : State} {op : Byte → State → Byte × State} {r : Byte} {c : Bool}
    (shift : i.mnemonic ∈ ([.asl, .lsr, .rol, .ror] : List Mnemonic))
    (h : execByMnemonic i s = .next
      (if i.mode = .accumulator then s.accumulatorForm op else s.memoryForm i.mode i.operand op))
    (hop : ∀ d, op (s.operandValue i.mode i.operand) (s.setDrawIndex d) =
      (r, (s.setDrawIndex d).setP (s.p.afterShift r c))) :
    ShiftsTo i s r c := by
  rw [ShiftsTo, exec_eq_byMnemonic, h, ← Status.afterShift_eq]
  constructor
  · intro accumulator
    rw [accumulator] at hop
    have hopA : op s.a s = (r, s.setP (s.p.afterShift r c)) := hop s.drawIndex
    rw [if_pos accumulator, State.accumulatorForm, hopA, Instr.length, accumulator]
    rfl
  · intro memory
    rw [if_neg memory, State.memoryForm_eq s _ _ memory (Instr.mode_ne_immediate_of_shift shift) op r _ _ rfl (hop _)]
    exact ⟨_, rfl⟩

/-! ### The results in numbers -/

theorem aslResult_eq (v : Byte) : aslResult v = BitVec.ofNat 8 (2 * v.toNat) := by
  apply BitVec.eq_of_toNat_eq
  rw [aslResult, BitVec.toNat_shiftLeft, BitVec.toNat_ofNat, Nat.shiftLeft_eq, Nat.mul_comm]

theorem lsrResult_eq (v : Byte) : lsrResult v = BitVec.ofNat 8 (v.toNat / 2) := by
  have := v.isLt
  apply BitVec.eq_of_toNat_eq
  rw [lsrResult, BitVec.toNat_ushiftRight, BitVec.toNat_ofNat, Nat.shiftRight_eq_div_pow]
  omega

/-- The incoming carry is added to ASL's result, whose bit 0 is clear. -/
theorem rolResult_eq (v : Byte) (c : Bool) :
    rolResult v c = BitVec.ofNat 8 (2 * v.toNat + if c then 1 else 0) := by
  have disjoint : aslResult v &&& flagByte c = 0#8 := by
    cases c
    · exact BitVec.and_zero
    · apply BitVec.eq_of_getLsbD_eq
      intro k hk
      interval_cases k <;> simp [aslResult, flagByte]
  have sum : rolResult v c = aslResult v + flagByte c := (BitVec.add_eq_or_of_and_eq_zero _ _ disjoint).symm
  rw [sum, aslResult_eq, BitVec.ofNat_add]
  cases c <;> rfl

/-- The incoming carry, moved to bit 7, is added to LSR's result, whose bit 7 is clear. -/
theorem rorResult_eq (v : Byte) (c : Bool) :
    rorResult v c = BitVec.ofNat 8 (v.toNat / 2 + 128 * if c then 1 else 0) := by
  have disjoint : lsrResult v &&& flagByte c <<< 7 = 0#8 := by
    cases c
    · exact BitVec.and_zero
    · apply BitVec.eq_of_getLsbD_eq
      intro k hk
      interval_cases k <;> simp [lsrResult, flagByte]
  have sum : rorResult v c = lsrResult v + flagByte c <<< 7 := (BitVec.add_eq_or_of_and_eq_zero _ _ disjoint).symm
  rw [sum, lsrResult_eq, BitVec.ofNat_add]
  cases c <;> rfl

/-- Settles O21: both shift on one path, and their results are the double and the half. -/
theorem aslAndLsrShiftOneBit : Obligations.AslAndLsrShiftOneBit := by
  refine ⟨hasForms_of_dispatch (by decide), hasForms_of_dispatch (by decide), fun i s => ?_⟩
  intro v shifted
  refine ⟨fun asl => ?_, fun lsr => ?_⟩
  · rw [← aslResult_eq]
    exact exec_shift (op := opAsl) (by simp [asl]) (by simp only [execByMnemonic, asl]) fun _ => rfl
  · rw [← lsrResult_eq]
    exact exec_shift (op := opLsr) (by simp [lsr]) (by simp only [execByMnemonic, lsr]) fun _ => rfl

/-- Settles O22: both rotate on the path of the shifts, and the carry in adds 1 to the double or 128 to the half. -/
theorem rolAndRorRotateThroughCarry : Obligations.RolAndRorRotateThroughCarry := by
  refine ⟨hasForms_of_dispatch (by decide), hasForms_of_dispatch (by decide), fun i s => ?_⟩
  intro v cin shifted
  refine ⟨fun rol => ?_, fun ror => ?_⟩
  · rw [← rolResult_eq]
    exact exec_shift (op := opRol) (by simp [rol]) (by simp only [execByMnemonic, rol]) fun _ => rfl
  · rw [← rorResult_eq]
    exact exec_shift (op := opRor) (by simp [ror]) (by simp only [execByMnemonic, ror]) fun _ => rfl

end Sys2Proof.Machine

/-! Control flow: the branches, JSR, RTS, BRK and RTI (43_control_flow.md R180 to R188, R190 to R192, R194). -/

namespace Sys2Proof.Machine

/-! ### Branches (R180 to R188) -/

/-- A branch in numbers: the displacement, read as a signed byte, is added to the address after the branch. -/
theorem State.branch_eq (s : State) {taken : Bool} {cond : Prop} [Decidable cond] (h : taken = decide cond) (d : Byte) :
    s.branch taken d =
      { s with pc := BitVec.ofInt 16 ((s.pc.toNat : Int) + 2 + (if cond then d.toInt else 0)) } := by
  have next : BitVec.ofInt 16 ((s.pc.toNat : Int) + 2) = s.pc + 2#16 := by
    rw [BitVec.ofInt_add, BitVec.ofInt_natCast, BitVec.ofNat_toNat, BitVec.setWidth_eq]
    rfl
  by_cases holds : cond
  · simp only [State.branch, h, holds, decide_true, if_true, BitVec.ofInt_add _ d.toInt, next]
    rfl
  · simp only [State.branch, h, holds, decide_false, Bool.false_eq_true, if_false, Int.add_zero, next]
    rfl

/-- The displacement 0xFE is the length of the branch, back to the branch itself. -/
theorem State.branch_to_itself (s : State) : s.branch true 0xFE#8 = s := by
  have back : s.pc + 2#16 + sext 0xFE#8 = s.pc := by
    rw [BitVec.add_assoc]
    exact BitVec.add_zero s.pc
  simp only [State.branch, if_true, back]
  rfl

/-- An instruction that runs a branch completes with the branch's PC and nothing else changed. -/
theorem exec_branch {i : Instr} {s : State} {d : Byte} {taken : Bool} {cond : Prop} [Decidable cond]
    (runs : exec i s = .next (s.branch taken d)) (h : taken = decide cond) :
    exec i s = .next
      { s with pc := BitVec.ofInt 16 ((s.pc.toNat : Int) + 2 + (if cond then d.toInt else 0)) } := by
  rw [runs, State.branch_eq s h]

theorem exec_bne_to_itself {s : State} (clear : s.p.z = false) : exec (.bne 0xFE#8) s = .next s := by
  have runs : exec (.bne 0xFE#8) s = .next (s.branch (!s.p.z) 0xFE#8) := rfl
  rw [runs, clear, Bool.not_false, State.branch_to_itself]

/-- Settles O31: the eight branches are one operation, each on one flag. -/
theorem branchesAddASignedDisplacement : Obligations.BranchesAddASignedDisplacement := by
  refine ⟨hasForms_of_dispatch (by decide), hasForms_of_dispatch (by decide), hasForms_of_dispatch (by decide),
    hasForms_of_dispatch (by decide), hasForms_of_dispatch (by decide), hasForms_of_dispatch (by decide),
    hasForms_of_dispatch (by decide), hasForms_of_dispatch (by decide), fun s d => ?_⟩
  exact ⟨exec_branch rfl Bool.decide_eq_false.symm, exec_branch rfl Bool.decide_eq_true.symm,
    exec_branch rfl Bool.decide_eq_true.symm, exec_branch rfl Bool.decide_eq_false.symm,
    exec_branch rfl Bool.decide_eq_true.symm, exec_branch rfl Bool.decide_eq_false.symm,
    exec_branch rfl Bool.decide_eq_false.symm, exec_branch rfl Bool.decide_eq_true.symm, exec_bne_to_itself⟩

/-! ### JSR and RTS (R190, R191)

The frames below name the memory a push leaves by that push itself; generalizing it keeps `rfl` to the other fields. -/

/-- Settles O33: JSR is a 16-bit push and a jump. -/
theorem jsrPushesTheLastByteAddress : Obligations.JsrPushesTheLastByteAddress := by
  refine ⟨hasForms_of_dispatch (by decide), fun s addr =>
    ⟨(s.pushWord (s.pc + 2#16)).setPc addr, rfl, ?_, s.pushWord_storageRead (s.pc + 2#16)⟩⟩
  rw [State.pushWord_eq]
  generalize (s.pushWord (s.pc + 2#16)).mem = mem
  rfl

theorem wordOf_eq_ofNat (lo hi : Byte) : wordOf lo hi = BitVec.ofNat 16 (lo.toNat + 256 * hi.toNat) := by
  rw [← wordOf_toNat, BitVec.ofNat_toNat, BitVec.setWidth_eq]

theorem exec_rts (s : State) : exec .rts s = .next (s.pullWord.2.setPc (s.pullWord.1 + 1#16)) := rfl

/-- Settles O34: RTS is a 16-bit pull, then one more. -/
theorem rtsPullsAndAddsOne : Obligations.RtsPullsAndAddsOne := by
  refine ⟨hasForms_of_dispatch (by decide), fun s => ?_⟩
  rw [exec_rts, State.pullWord_eq, wordOf_eq_ofNat, ← BitVec.ofNat_add]
  rfl

/-! ### BRK and RTI (R192, R194, R311) -/

theorem brkPushedStatus_eq (s : State) :
    brkPushedStatus s =
      if s.params.brkPushOrder = .document then Status.toByte { s.p with b := true, i := true }
      else s.p.toByte ||| 0x10#8 := by
  rw [brkPushedStatus]
  cases s.params.brkPushOrder <;> rfl

theorem isIoWindow_of_prg {a : Word} (prg : 0x8000#16 ≤ a) : isIoWindow a = false :=
  (isIoWindow_eq_false_iff a).mpr (.inr (by bv_omega))

/-- A trap takes PC from the vector as it was before the frame was pushed. -/
theorem State.takeTrap_of_prg_vector (s : State) (ret : Word) (status : Byte) {vector : Word}
    (lo : 0x8000#16 ≤ vector) (hi : 0x8000#16 ≤ vector + 1#16) :
    s.takeTrap ret status vector = { s with
      mem := (s.takeTrap ret status vector).mem
      sp := s.sp - 3#8
      p := { s.p with i := true }
      pc := wordOf (s.peek vector) (s.peek (vector + 1#16)) } := by
  rw [State.takeTrap_eq s ret status vector (isIoWindow_of_prg lo) (isIoWindow_of_prg hi),
    State.trapFrame_peek s ret status lo, State.trapFrame_peek s ret status hi]
  generalize ((s.pushWord ret).push status).mem = mem
  rfl

/-- BRK is a trap entry with B and I set. -/
theorem exec_brk (s : State) :
    exec .brk s = .next ((s.setP { s.p with b := true, i := true }).takeTrap (s.pc + s.params.brkReturnOffset)
      (brkPushedStatus s) 0xFFFE#16) := rfl

/-- Settles O38: a trap entry through the vector 0xFFFE, in the state that has B and I set. -/
theorem brkEntersTheTrap : Obligations.BrkEntersTheTrap := by
  refine ⟨hasForms_of_dispatch (by decide), rfl, rfl, fun s => ?_⟩
  intro ret pushed
  have status : brkPushedStatus s = pushed := brkPushedStatus_eq s
  rw [exec_brk, status]
  refine ⟨_, rfl, ?_, (s.setP { s.p with b := true, i := true }).takeTrap_storageRead ret pushed 0xFFFE#16⟩
  rw [State.takeTrap_of_prg_vector _ _ _ (by decide) (by decide)]
  generalize (State.takeTrap _ _ _ _).mem = mem
  rfl

/-- Settles O39: RTI is a return from a trap. -/
theorem rtiRestoresFlagsAndPc : Obligations.RtiRestoresFlagsAndPc := by
  refine ⟨hasForms_of_dispatch (by decide), fun s => ?_⟩
  intro q
  have returns : exec .rti s = .next s.returnFromTrap := rfl
  rw [returns, State.returnFromTrap_eq, Status.restore_eq, wordOf_eq_ofNat]
  rfl

end Sys2Proof.Machine

/-! The stack instructions: PHA, PHP, PLA and PLP (44_stack.md R210 to R213). -/

namespace Sys2Proof.Machine

/-! ### Pushes (R210, R211) -/

/-- An implied instruction that pushes `v` moves S and PC and leaves `v` in the slot of the stack page. -/
theorem exec_push {i : Instr} {s : State} {v : Byte} (runs : exec i s = .next (s.impliedForm (State.push · v))) :
    ∃ t, exec i s = .next t ∧
      t = { s with mem := t.mem, sp := s.sp - 1#8, pc := s.pc + 1#16 } ∧
      (s.storageReady = true →
        ∀ o : Word, t.storageRead o = if o = stackAddr s.sp then v else s.storageRead o) := by
  refine ⟨_, runs, ?_, fun ready o => ?_⟩
  · rw [State.impliedForm, State.push_eq]
    rfl
  · have advanced : (s.impliedForm (State.push · v)).storageRead o = (s.push v).storageRead o :=
      State.storageRead_congr rfl rfl o
    rw [advanced, State.push_storageRead s v o ready]
    simp only [eq_comm]

/-- Settles O36: both are one push, of A or of P with bit 4 set. -/
theorem stackPushesOfAAndP : Obligations.StackPushesOfAAndP := by
  refine ⟨hasForms_of_dispatch (by decide), hasForms_of_dispatch (by decide), fun s => ⟨exec_push rfl, ?_⟩⟩
  rw [Status.toByte_or_break]
  exact exec_push rfl

/-! ### Pulls (R212, R213) -/

theorem Status.setNZ_eq (p : Status) (r : Byte) : p.setNZ r = { p with n := r.msb, z := decide (r = 0#8) } := by
  rw [Status.setNZ, BitVec.msb_eq_getLsbD_last]

theorem Status.toByte_ofByte (q : Byte) : (Status.ofByte q).toByte = q := by
  revert q
  decide

/-- PLA pulls A and sets N and Z by the byte pulled. -/
theorem opPla_eq (s : State) :
    opPla s = ((s.setSp (s.sp + 1#8)).setA (s.storageRead (stackAddr (s.sp + 1#8)))).setP
      (s.p.setNZ (s.storageRead (stackAddr (s.sp + 1#8)))) := by
  rw [opPla, State.pull_eq]
  rfl

/-- PLP restores the flags from the byte pulled. -/
theorem opPlp_eq (s : State) :
    opPlp s = (s.setSp (s.sp + 1#8)).setP (s.p.restore (s.storageRead (stackAddr (s.sp + 1#8)))) := by
  rw [opPlp, State.pull_eq]
  rfl

theorem exec_pla (s : State) : exec .pla s = .next (s.impliedForm opPla) := rfl

theorem exec_plp (s : State) : exec .plp s = .next (s.impliedForm opPlp) := rfl

/-- Settles O37: both are one pull; PLP's status is the merged byte, which takes all flags but B and U from it. -/
theorem stackPullsOfAAndP : Obligations.StackPullsOfAAndP := by
  refine ⟨hasForms_of_dispatch (by decide), hasForms_of_dispatch (by decide), fun s => ?_⟩
  intro q
  refine ⟨?pla, s.p.restore q, ?plp, Status.toByte_ofByte _, Status.restore_eq s.p q⟩
  case pla =>
    rw [exec_pla, State.impliedForm, opPla_eq, Status.setNZ_eq]
    rfl
  case plp =>
    rw [exec_plp, State.impliedForm, opPlp_eq]
    rfl

end Sys2Proof.Machine

/-! Loads, stores and register transfers (45_load_store_transfer.md R230 to R241). -/

namespace Sys2Proof.Machine

/-! ### Loads (R230 to R232) -/

/-- An instruction whose operation puts M in a register, with N and Z of M, and advances PC. -/
theorem exec_load {i : Instr} {s : State} (put : State → Byte → State)
    (h : execByMnemonic i s = .next
      (s.registerForm i.mode i.operand fun m t => (put t m).setP (t.p.setNZ m))) :
    ∃ d, exec i s = .next (((put (s.setDrawIndex d) (s.operandValue i.mode i.operand)).setP { s.p with
      n := (s.operandValue i.mode i.operand).msb
      z := decide (s.operandValue i.mode i.operand = 0#8) }).advance i.length) := by
  obtain ⟨d, hexec⟩ := exec_registerForm h
  exact ⟨d, by rw [hexec, State.setDrawIndex_p, Status.setNZ_eq]⟩

/-- Settles O28: the three loads are one operation on A, X or Y. -/
theorem loadsSetRegisterAndNZ : Obligations.LoadsSetRegisterAndNZ := by
  refine ⟨hasForms_of_dispatch (by decide), hasForms_of_dispatch (by decide), hasForms_of_dispatch (by decide),
    fun i s => ⟨fun lda => ?_, fun ldx => ?_, fun ldy => ?_⟩⟩
  · exact exec_load State.setA (by simp only [execByMnemonic, lda]; rfl)
  · exact exec_load State.setX (by simp only [execByMnemonic, ldx]; rfl)
  · exact exec_load State.setY (by simp only [execByMnemonic, ldy]; rfl)

/-! ### Stores (R233 to R235) -/

/-- A write leaves every offset but the translated one alone, whether it stores its byte or not. -/
theorem State.memWrite_storageRead_other (s : State) {a o : Word} (other : o ≠ translateAddr a s.mode) (v : Byte) :
    (s.memWrite a v).storageRead o = s.storageRead o := by
  rw [State.memWrite_storageRead, if_neg other.symm, ite_self]

/-- What a state with the memory of a write holds: the byte at every address with the same translation, the old
bytes at every other offset. -/
theorem State.bytes_of_memWrite {s t : State} {a : Word} {v : Byte} (mem : t.mem = (s.memWrite a v).mem)
    (ready : t.storageReady = s.storageReady) (mode : t.mode = s.mode) :
    (s.Writable a → ∀ b : Word, translateAddr b s.mode = translateAddr a s.mode → t.peek b = v) ∧
      ∀ o : Word, o ≠ translateAddr a s.mode → t.storageRead o = s.storageRead o := by
  have sameReady : t.storageReady = (s.memWrite a v).storageReady := ready.trans (s.memWrite_storageReady a v).symm
  constructor
  · intro writable b same
    rw [State.peek_congr mem sameReady (mode.trans (s.memWrite_mode a v).symm)]
    exact aliasesShareAByte.2 s a b v writable same.symm
  · intro o other
    rw [State.storageRead_congr mem sameReady, State.memWrite_storageRead_other s other]

/-- An instruction on the path of a store writes the register at the effective address and advances PC; the register
does not depend on the draw counter. -/
theorem exec_store {i : Instr} {s : State} {reg : State → Byte} (memory : i.kind = .memory)
    (h : execByMnemonic i s = .next (s.storeForm i.mode i.operand reg))
    (hreg : ∀ d, reg (s.setDrawIndex d) = reg s) :
    ∃ d, exec i s = .next { s with
      mem := (s.memWrite (s.effectiveAddress i.mode i.operand) (reg s)).mem
      pc := s.pc + BitVec.ofNat 16 i.length
      drawIndex := d } := by
  obtain ⟨notAccumulator, notImmediate⟩ := Instr.mode_of_memory memory
  have form := s.memoryForm_eq i.mode i.operand notAccumulator notImmediate (fun _ t => (reg t, t)) (reg s) s.p _ rfl
    (by rw [hreg]; rfl)
  exact ⟨_, by rw [exec_eq_byMnemonic, h, State.storeForm, form]; rfl⟩

/-- Settles O29: the three stores are one path, and the bytes they leave are those of the write. -/
theorem storesWriteTheRegister : Obligations.StoresWriteTheRegister := by
  refine ⟨hasForms_of_dispatch (by decide), hasForms_of_dispatch (by decide), hasForms_of_dispatch (by decide),
    fun i s => ?_⟩
  intro ea stored
  have kind := Instr.kind_of_mnemonic i
  have stored_of_exec {r : Byte} (runs : ∃ d, exec i s = .next { s with
      mem := (s.memWrite ea r).mem, pc := s.pc + BitVec.ofNat 16 i.length, drawIndex := d }) : stored r := by
    refine ⟨runs, fun t next => ?_⟩
    obtain ⟨d, hexec⟩ := runs
    cases hexec.symm.trans next
    exact State.bytes_of_memWrite rfl rfl rfl
  refine ⟨fun sta => ?_, fun stx => ?_, fun sty => ?_⟩
  · exact stored_of_exec
      (exec_store (reg := State.a) (by rw [kind, sta]) (by simp only [execByMnemonic, sta]) fun _ => rfl)
  · exact stored_of_exec
      (exec_store (reg := State.x) (by rw [kind, stx]) (by simp only [execByMnemonic, stx]) fun _ => rfl)
  · exact stored_of_exec
      (exec_store (reg := State.y) (by rw [kind, sty]) (by simp only [execByMnemonic, sty]) fun _ => rfl)

/-! ### Transfers (R236 to R241) -/

/-- An instruction that puts `r` in a register, with N and Z of `r`, and advances PC by one. -/
theorem exec_transfer {i : Instr} {s : State} (put : State → Byte → State) (r : Byte)
    (runs : exec i s = .next (((put s r).setP (s.p.setNZ r)).advance 1)) :
    exec i s = .next (((put s r).setP { s.p with n := r.msb, z := decide (r = 0#8) }).advance 1) := by
  rw [runs, Status.setNZ_eq]

/-- Settles O30: five transfers are one copy with N and Z; TXS writes S alone. -/
theorem transfersCopyRegisters : Obligations.TransfersCopyRegisters := by
  refine ⟨hasForms_of_dispatch (by decide), hasForms_of_dispatch (by decide), hasForms_of_dispatch (by decide),
    hasForms_of_dispatch (by decide), hasForms_of_dispatch (by decide), hasForms_of_dispatch (by decide), fun s => ?_⟩
  exact ⟨exec_transfer State.setX s.a rfl, exec_transfer State.setY s.a rfl, exec_transfer State.setA s.x rfl,
    exec_transfer State.setA s.y rfl, exec_transfer State.setX s.sp rfl, rfl⟩

end Sys2Proof.Machine

/-! Logic, increments and decrements, the flag instructions and NOP (46_logic_incdec_flags.md R260 to R277). -/

namespace Sys2Proof.Machine

/-! ### AND, ORA and EOR (R260 to R262) -/

/-- An instruction whose operation combines A with M into A, bit by bit, with N and Z of the result. -/
theorem exec_logic {i : Instr} {s : State} (combine : Byte → Byte → Byte) {f : Bool → Bool → Bool}
    (bits : ∀ a m k, (combine a m).getLsbD k = f (a.getLsbD k) (m.getLsbD k))
    (h : execByMnemonic i s = .next
      (s.registerForm i.mode i.operand fun m t => (t.setA (combine t.a m)).setP (t.p.setNZ (combine t.a m)))) :
    ∃ (r : Byte) (d : Nat),
      (∀ k < 8, r.getLsbD k = f (s.a.getLsbD k) ((s.operandValue i.mode i.operand).getLsbD k)) ∧
      exec i s = .next { s with
        a := r
        p := { s.p with n := r.getLsbD 7, z := decide (r = 0#8) }
        pc := s.pc + BitVec.ofNat 16 i.length
        drawIndex := d } := by
  obtain ⟨d, hexec⟩ := exec_registerForm h
  exact ⟨combine s.a (s.operandValue i.mode i.operand), d, fun k _ => bits _ _ k, hexec⟩

/-- Settles O23: the three are one operation, each with its own function of two bits. -/
theorem logicOnTheAccumulator : Obligations.LogicOnTheAccumulator := by
  refine ⟨hasForms_of_dispatch (by decide), hasForms_of_dispatch (by decide), hasForms_of_dispatch (by decide),
    fun i s => ⟨fun and => ?_, fun ora => ?_, fun eor => ?_⟩⟩
  · exact exec_logic (· &&& ·) (fun _ _ _ => BitVec.getLsbD_and) (by simp only [execByMnemonic, and]; rfl)
  · exact exec_logic (· ||| ·) (fun _ _ _ => BitVec.getLsbD_or) (by simp only [execByMnemonic, ora]; rfl)
  · exact exec_logic (· ^^^ ·) (fun _ _ _ => BitVec.getLsbD_xor) (by simp only [execByMnemonic, eor]; rfl)

/-! ### BIT (R263) -/

/-- Two bytes have no bit in common when no position has both bits set. -/
theorem and_eq_zero_iff_bits (a m : Byte) :
    a &&& m = 0#8 ↔ (List.range 8).all (fun k => !(a.getLsbD k && m.getLsbD k)) = true := by
  simp only [List.all_eq_true, List.mem_range, Bool.not_eq_true', ← BitVec.getLsbD_and]
  exact ⟨fun disjoint k _ => by rw [disjoint, BitVec.getLsbD_zero],
    fun disjoint => BitVec.eq_of_getLsbD_eq fun k hk => by rw [disjoint k hk, BitVec.getLsbD_zero]⟩

theorem Status.afterBit_eq (p : Status) (a m : Byte) :
    p.afterBit a m = { p with
      n := m.getLsbD 7
      v := m.getLsbD 6
      z := (List.range 8).all (fun k => !(a.getLsbD k && m.getLsbD k)) } := by
  simp only [Status.afterBit, and_eq_zero_iff_bits, Bool.decide_eq_true]

/-- Settles O24: BIT writes the flags alone, and Z says that A and M have no bit in common. -/
theorem bitTestsMemory : Obligations.BitTestsMemory := by
  refine ⟨hasForms_of_dispatch (by decide), fun i s bit => ?_⟩
  intro m
  obtain ⟨d, hexec⟩ := exec_registerForm (i := i) (s := s) (op := opBit) (by simp only [execByMnemonic, bit])
  exact ⟨d, by rw [hexec, opBit, Status.afterBit_eq]; rfl⟩

/-! ### INC and DEC (R264, R265) -/

theorem byte_add_one (b : Byte) : b + 1#8 = BitVec.ofNat 8 (b.toNat + 1) := by
  bv_omega

/-- A decrement adds 255 modulo 256. -/
theorem byte_sub_one (b : Byte) : b - 1#8 = BitVec.ofNat 8 (b.toNat + 255) := by
  bv_omega

/-- A state with the memory of a write that takes effect reads the written byte at its address. -/
theorem State.peek_of_memWrite {s t : State} {a : Word} {v : Byte} (mem : t.mem = (s.memWrite a v).mem)
    (ready : t.storageReady = s.storageReady) (mode : t.mode = s.mode) (writable : s.Writable a) : t.peek a = v :=
  (State.bytes_of_memWrite mem ready mode).1 writable a rfl

/-- An instruction that reads M, stores `r` at the effective address with N and Z of `r`, and advances PC; a writable
effective address then reads `r`. -/
theorem exec_modify {i : Instr} {s : State} {op : Byte → State → Byte × State} {r : Byte} (memory : i.kind = .memory)
    (h : execByMnemonic i s = .next (s.memoryForm i.mode i.operand op))
    (hop : ∀ d, op (s.operandValue i.mode i.operand) (s.setDrawIndex d) =
      (r, (s.setDrawIndex d).setP (s.p.setNZ r))) :
    (∃ d, exec i s = .next { s with
      mem := (s.memWrite (s.effectiveAddress i.mode i.operand) r).mem
      p := { s.p with n := r.msb, z := decide (r = 0#8) }
      pc := s.pc + BitVec.ofNat 16 i.length
      drawIndex := d }) ∧
    ∀ t, exec i s = .next t → s.Writable (s.effectiveAddress i.mode i.operand) →
      t.peek (s.effectiveAddress i.mode i.operand) = r := by
  obtain ⟨notAccumulator, notImmediate⟩ := Instr.mode_of_memory memory
  have form := s.memoryForm_eq i.mode i.operand notAccumulator notImmediate op r _ _ rfl (hop _)
  rw [exec_eq_byMnemonic, h, form, Status.setNZ_eq]
  -- with the written memory named, `rfl` compares only the other fields
  generalize written : (s.memWrite (s.effectiveAddress i.mode i.operand) r).mem = mem
  refine ⟨⟨_, rfl⟩, fun t next writable => ?_⟩
  cases next
  exact State.peek_of_memWrite written.symm rfl rfl writable

/-- Settles O25: both are one path, whose result is M with 1 or 255 added. -/
theorem incAndDecMemory : Obligations.IncAndDecMemory := by
  refine ⟨hasForms_of_dispatch (by decide), hasForms_of_dispatch (by decide), fun i s => ?_⟩
  intro m ea stored
  have kind := Instr.kind_of_mnemonic i
  refine ⟨fun inc => ?_, fun dec => ?_⟩
  · rw [← byte_add_one]
    exact exec_modify (op := opInc) (by rw [kind, inc]) (by simp only [execByMnemonic, inc]) fun _ => rfl
  · rw [← byte_sub_one]
    exact exec_modify (op := opDec) (by rw [kind, dec]) (by simp only [execByMnemonic, dec]) fun _ => rfl

/-! ### INX, INY, DEX and DEY (R266 to R269) -/

/-- Settles O26: each puts its register plus or minus one back on the path of the transfers. -/
theorem indexIncrementsAndDecrements : Obligations.IndexIncrementsAndDecrements := by
  refine ⟨hasForms_of_dispatch (by decide), hasForms_of_dispatch (by decide), hasForms_of_dispatch (by decide),
    hasForms_of_dispatch (by decide), fun s => ?_⟩
  simp only [← byte_add_one, ← byte_sub_one]
  exact ⟨exec_transfer State.setX (s.x + 1#8) rfl, exec_transfer State.setY (s.y + 1#8) rfl,
    exec_transfer State.setX (s.x - 1#8) rfl, exec_transfer State.setY (s.y - 1#8) rfl⟩

/-! ### The flag instructions and NOP (R270 to R277) -/

/-- An implied instruction that writes flags alone advances PC by one and changes nothing else. -/
theorem exec_writeFlags {i : Instr} {s : State} (write : Status → Status)
    (runs : exec i s = .next (s.impliedForm fun t => t.setP (write t.p))) :
    exec i s = .next { s with p := write s.p, pc := s.pc + 1#16 } := runs

/-- Settles O27: seven instructions write one flag each on one path, and NOP takes that path with the flags as they
are. -/
theorem flagInstructionsAndNop : Obligations.FlagInstructionsAndNop := by
  refine ⟨hasForms_of_dispatch (by decide), hasForms_of_dispatch (by decide), hasForms_of_dispatch (by decide),
    hasForms_of_dispatch (by decide), hasForms_of_dispatch (by decide), hasForms_of_dispatch (by decide),
    hasForms_of_dispatch (by decide), hasForms_of_dispatch (by decide), fun s => ?_⟩
  exact ⟨exec_writeFlags ({ · with c := false }) rfl, exec_writeFlags ({ · with c := true }) rfl,
    exec_writeFlags ({ · with i := false }) rfl, exec_writeFlags ({ · with i := true }) rfl,
    exec_writeFlags ({ · with d := false }) rfl, exec_writeFlags ({ · with d := true }) rfl,
    exec_writeFlags ({ · with v := false }) rfl, exec_writeFlags id rfl⟩

end Sys2Proof.Machine

/-! The interrupts: the entry and its frame, when an interrupt is due, and the NMI latch (60_exceptions.md R306 to
R310). -/

namespace Sys2Proof.Machine

open Sys2Proof.Config

/-! ### Interrupt entry (R310) -/

/-- Both entries are one trap entry: from PC, with bit 4 of P pushed as 0, after an NMI has cleared its latch. -/
theorem State.enterInterrupt_eq_takeTrap (s : State) (src : Interrupt) :
    s.enterInterrupt src =
      (s.setNmiPending (if src = .nmi then false else s.nmiPending)).takeTrap s.pc (s.p.toByte &&& 0xEF#8)
        (if src = .nmi then 0xFFFA#16 else 0xFFFE#16) := by
  cases src <;> rfl

/-- Both bytes of an interrupt vector are in the PRG window. -/
theorem interruptVector_prg (src : Interrupt) :
    0x8000#16 ≤ (if src = .nmi then 0xFFFA#16 else 0xFFFE#16) ∧
      0x8000#16 ≤ (if src = .nmi then 0xFFFA#16 else 0xFFFE#16) + 1#16 := by
  cases src <;> decide

/-- Settles O41: the entry is a trap entry through a vector of the PRG window, and the step of a due interrupt is that
entry. -/
theorem interruptEntryPushesTheFrame : Obligations.InterruptEntryPushesTheFrame := by
  refine ⟨fun s src => ?_, fun _ _ running => step_of_interruptDue running⟩
  intro ret pushed vector t
  have entry : t = (s.setNmiPending (if src = .nmi then false else s.nmiPending)).takeTrap ret pushed vector :=
    s.enterInterrupt_eq_takeTrap src
  obtain ⟨lo, hi⟩ := interruptVector_prg src
  rw [entry]
  generalize (if src = .nmi then false else s.nmiPending) = pending
  refine ⟨?_, (s.setNmiPending pending).takeTrap_storageRead ret pushed vector⟩
  rw [State.takeTrap_of_prg_vector _ _ _ lo hi]
  generalize (State.takeTrap _ _ _ _).mem = mem
  rfl

/-! ### When an interrupt is due (R306, R308, R309) -/

section
variable {s : State} (connected : s.params.interruptsConnected = true)
include connected

/-- A pending NMI comes first, whatever I is. -/
theorem State.interruptDue_eq_nmi_iff : s.interruptDue = some .nmi ↔ s.nmiPending = true := by
  cases pending : s.nmiPending <;> simp [State.interruptDue, connected, pending]

/-- An IRQ needs its line active and I clear, and waits for a pending NMI. -/
theorem State.interruptDue_eq_irq_iff :
    s.interruptDue = some .irq ↔ s.nmiPending = false ∧ s.irqLine = true ∧ s.p.i = false := by
  cases pending : s.nmiPending <;> simp [State.interruptDue, connected, pending]

theorem State.driveInputs_connected (nmi irq : Bool) :
    s.driveInputs nmi irq = { s with
      nmiPending := s.nmiPending || (!s.nmiLine && nmi)
      nmiLine := nmi
      irqLine := irq } :=
  if_pos connected

/-- Sampling drives both inputs to free levels and counts one draw. -/
theorem State.sampleInputs_connected :
    s.sampleInputs =
      { s.driveInputs (nmiInput s.drawIndex) (irqInput s.drawIndex) with drawIndex := s.drawIndex + 1 } :=
  if_pos connected

end

/-- Settles O42: the branches of sampling, of the interrupt that is due and of the step, each by its own lemma. -/
theorem interruptPriority : Obligations.InterruptPriority := by
  refine ⟨fun s => ⟨fun disconnected => ?_, fun connected => ?_⟩, fun s => ⟨?_, ?_, fun stopped t next => ?_⟩⟩
  · exact ⟨s.sampleInputs_disconnected disconnected, s.interruptDue_disconnected disconnected⟩
  · exact ⟨State.interruptDue_eq_nmi_iff connected, State.interruptDue_eq_irq_iff connected, _, _,
      State.sampleInputs_connected connected⟩
  · exact fun _ running => step_of_interruptDue running
  · exact fun _ running noInterrupt => step_of_decode_ok running noInterrupt
  · exact stopped (step_next_cases next).1

/-! ### The NMI latch (R307) -/

/-- No instruction writes the latch, whatever I holds. -/
theorem exec_keeps_nmiPending {i : Instr} {s t : State} (h : exec i s = .next t) : t.nmiPending = s.nmiPending := by
  obtain ⟨u, hu, frame⟩ := exec_fields i s
  cases hu.symm.trans h
  rw [frame]

/-- An entry clears the latch of an NMI and no other. -/
theorem State.enterInterrupt_nmiPending (s : State) (src : Interrupt) :
    (s.enterInterrupt src).nmiPending = if src = .nmi then false else s.nmiPending := by
  rw [(interruptEntryPushesTheFrame.1 s src).1]

theorem State.hostReset_nmiPending {s t : State} (h : s.hostReset = .ok t) : t.nmiPending = false := by
  cases engine : s.engine with
  | unpowered => cases (State.hostReset_unpowered engine).symm.trans h
  | running | halted =>
    simp only [State.hostReset, engine, Except.ok.injEq] at h
    rw [← h]
    rfl

/-- Settles O43: the inputs alone set the latch, and only an NMI's entry, power-on and reset clear it. -/
theorem nmiIsLatched : Obligations.NmiIsLatched := by
  refine ⟨fun s nmi irq connected => ⟨State.driveInputs_connected connected nmi irq,
      (State.interruptDue_eq_nmi_iff connected).mpr⟩, fun _ _ _ => exec_keeps_nmiPending, fun s =>
    ⟨s.enterInterrupt_nmiPending .irq, s.enterInterrupt_nmiPending .nmi, fun m => ?_,
      fun _ => State.hostReset_nmiPending⟩⟩
  rw [State.powerOn_eq]
  rfl

end Sys2Proof.Machine

/-! The round trip of the encoding, in both directions, and the dispatch slot of each instruction (30_encoding.md
sections 1 to 4, 40_engine.md section 3). -/

namespace Sys2Proof

/-! ### Operands and operand bytes (R80, R83) -/

theorem zext_loByte {w : Word} (h : w.toNat < 256) : zext (loByte w) = w := by
  apply BitVec.eq_of_toNat_eq
  rw [Machine.zext_toNat, loByte, BitVec.extractLsb'_toNat, Nat.shiftRight_zero, Nat.mod_eq_of_lt h]

/-- An operand that fits its operand bytes is assembled from them again, whatever follows them. -/
theorem operandOf_operandBytes (m : Mode) {w : Word} (fits : w.toNat < 256 ^ (m.length - 1)) (rest : List Byte) :
    operandOf m.length (operandBytes m.length w ++ rest) = w := by
  rcases m.length_cases with one | two | three
  · rw [one] at fits ⊢
    exact (BitVec.eq_of_toNat_eq (Nat.lt_one_iff.mp fits)).symm
  · rw [two] at fits ⊢
    exact zext_loByte fits
  · rw [three]
    exact Machine.wordOf_lo_hi w

/-- An operand assembled from a complete buffer has the operand bytes of that buffer. -/
theorem operandBytes_operandOf (m : Mode) {rest : List Byte} (complete : m.length ≤ rest.length + 1) :
    operandBytes m.length (operandOf m.length rest) = rest.take (m.length - 1) := by
  rcases m.length_cases with one | two | three
  · rw [one]
    rfl
  · rw [two] at complete ⊢
    match rest, complete with
    | b1 :: _, _ => simp [operandOf, operandBytes]
  · rw [three] at complete ⊢
    match rest, complete with
    | b1 :: b2 :: _, _ => simp [operandOf, operandBytes]

/-! ### Decoding an encoding -/

/-- The description of an encoding: its opcode selects the slot of the instruction's mode, its operand bytes give the
operand back. -/
theorem describe_encode (i : Instr) (rest : List Byte) : describe (encode i ++ rest) = .ok i.describe := by
  obtain ⟨e, he, -, hmode, -⟩ := dispatch_opcode i
  have complete : e.mode.length ≤ (operandBytes i.length i.operand ++ rest).length + 1 := by
    have encoded := encode_length i
    rw [encode, List.length_cons] at encoded
    rw [hmode, ← Instr.length, List.length_append]
    omega
  rw [encode, List.cons_append, describe_of_complete he complete, hmode, Instr.length,
    operandOf_operandBytes i.mode (Laws.DescriptionWellFormed.operand_fits i) rest]
  rfl

theorem decode_encode (i : Instr) (rest : List Byte) : decode (encode i ++ rest) = .ok i := by
  obtain ⟨e, he, -, -, -, hbuild⟩ := dispatch_opcode i
  simp only [decode, describe_encode, Instr.describe, he, hbuild]

/-- Settles O2: the encoding names the instruction's own dispatch slot, and its operand bytes give the operand back. -/
theorem decodeInvertsEncode : Obligations.DecodeInvertsEncode :=
  fun i rest => ⟨Laws.DescriptionWellFormed.wf_true i, decode_encode i rest, describe_encode i rest⟩

/-! ### Encoding what was decoded -/

/-- The instruction a slot builds has the whole assembled operand. -/
theorem operand_build_operandOf {op : Byte} {e : DispatchEntry} (h : dispatch op = some e) {rest : List Byte}
    (complete : e.mode.length ≤ rest.length + 1) :
    (e.build (operandOf e.mode.length rest)).operand = operandOf e.mode.length rest := by
  obtain ⟨-, -, hone, htwo, hthree⟩ := dispatch_build op e (operandOf e.mode.length rest) h
  rcases e.mode.length_cases with one | two | three
  · rw [hone one, one, operandOf_one]
  · rw [htwo two]
    rw [two] at complete ⊢
    obtain ⟨b1, -, -, value⟩ := operandOf_two complete
    exact zext_loByte (value ▸ b1.isLt)
  · exact hthree three

/-- Settles O3: a buffer that decodes is the opcode of a populated slot and that slot's operand bytes, and the
instruction the slot builds encodes to them. -/
theorem encodeInvertsDecode : Obligations.EncodeInvertsDecode := by
  intro bytes i decoded
  cases bytes with
  | nil => cases decoded
  | cons op rest =>
    obtain ⟨-, unknown⟩ | ⟨e, -, -, truncated⟩ | ⟨e, he, complete, -⟩ := describe_cons op rest
    · cases (decode_of_describe_error unknown).symm.trans decoded
    · cases (decode_of_describe_error truncated).symm.trans decoded
    · cases (decode_of_complete he complete).symm.trans decoded
      obtain ⟨hopcode, hmode, -⟩ := dispatch_build op e (operandOf e.mode.length rest) he
      have positive : e.mode.length ≠ 0 := by
        rcases e.mode.length_cases with one | two | three <;> omega
      rw [encode, Instr.length, hopcode, hmode, operand_build_operandOf he complete,
        operandBytes_operandOf e.mode complete, List.take_cons (Nat.pos_of_ne_zero positive)]

/-- Settles O1: the decoder is run on each of the seventeen words. -/
theorem sampleWordsDecode : Obligations.SampleWordsDecode :=
  ⟨rfl, rfl, rfl, rfl, rfl, rfl, rfl, rfl, rfl, rfl, rfl, rfl, rfl, rfl, rfl, rfl, rfl⟩

/-! ### The dispatch slots (40_engine.md section 3) -/

/-- Settles O7: the slot of each opcode is its instruction's, and the kind is read off the mnemonic, which leaves the
mode to decide for the shifts alone. -/
theorem dispatchSlotsMatchInstructions : Obligations.DispatchSlotsMatchInstructions := by
  intro i
  refine ⟨dispatch_opcode i, ?_⟩
  have kind := Machine.Instr.kind_of_mnemonic i
  cases mnemonic : i.mnemonic <;> simp only [mnemonic] at kind <;> rw [kind]
  case asl | lsr | rol | ror =>
    by_cases accumulator : i.mode = .accumulator <;> simp [accumulator]
  all_goals simp

end Sys2Proof

/-! Whole-machine rules of the instructions: the meaning of V, operand values, the stack round trips, completion, and
the memory frame (40_engine.md, 41_arithmetic_compare.md, 43_control_flow.md, 44_stack.md). -/

namespace Sys2Proof.Machine

open Sys2Proof.Config

/-! ### Signed overflow -/

theorem complement_toInt (m : Byte) : (0xFF#8 - m).toInt = -1 - m.toInt := by
  have := m.isLt
  rw [BitVec.toInt_eq_toNat_cond, BitVec.toInt_eq_toNat_cond, complement_toNat]
  omega

/-- The sign comparison of R140 in two's complement: the signed sum leaves the signed byte range. -/
theorem addOverflow_iff (a m : Byte) (c : Bool) :
    addOverflow a m (addResult a m c) = true ↔
      a.toInt + m.toInt + (if c then 1 else 0) < -128 ∨ 127 < a.toInt + m.toInt + (if c then 1 else 0) := by
  have := a.isLt
  have := m.isLt
  have carry : (if c then 1 else 0 : Int) = ((if c then 1 else 0 : Nat) : Int) := by cases c <;> rfl
  have carry_le : (if c then 1 else 0 : Nat) ≤ 1 := by cases c <;> decide
  rw [addOverflow_eq, addResult, addSum_eq, carry]
  generalize (if c then 1 else 0 : Nat) = k at carry_le
  simp only [BitVec.msb_eq_decide, BitVec.toInt_eq_toNat_cond, BitVec.toNat_ofNat, Bool.and_eq_true, beq_iff_eq,
    bne_iff_ne, ne_eq, decide_eq_decide]
  omega

/-- Settles O19: SBC adds the complement, whose signed value is -1 - M, so both clauses are that of the sum. -/
theorem overflowIsSignedOverflow : Obligations.OverflowIsSignedOverflow := by
  refine fun p a m => ⟨addOverflow_iff a m p.c, ?_⟩
  have sum := addOverflow_iff a (0xFF#8 - m) p.c
  have difference : a.toInt + (0xFF#8 - m).toInt + (if p.c then 1 else 0) =
      a.toInt - m.toInt - (if p.c then 0 else 1) := by
    rw [complement_toInt]
    split_ifs <;> omega
  rwa [difference] at sum

/-! ### Operand values (R112 to R114) -/

/-- Under IO_MODEL = storage no mode's resolution has an effect. -/
theorem State.resolve_storage {s : State} (storage : s.params.ioModel = .storage) (mode : Mode) (w : Word) :
    (s.resolve mode w).2 = s := by
  by_cases indirect : mode = .indirectAbsolute
  · rw [indirect, State.resolve_indirectAbsolute, State.read16_stored (.inl storage) (.inl storage)]
  · exact s.resolve_pure mode w indirect

/-- Settles O16: two modes read no memory, the others read it at the effective address. -/
theorem operandValuesByMode : Obligations.OperandValuesByMode := by
  refine fun s b mode w => ⟨rfl, ?_, s.operandRead_memory mode w, fun storage notAcc notImm => ?_,
    _, s.operandRead_state mode w⟩
  · rw [State.operandRead, loByte_zext]
  · rw [State.operandRead_memory s mode w notAcc notImm, State.resolve_storage storage, s.memRead_storage storage]
    rfl

/-! ### Completion and frames -/

/-- What an instruction leaves: registers, flags, memory and the draw counter may differ, nothing else. -/
theorem exec_frame {i : Instr} {s t : State} (h : exec i s = .next t) :
    t = { s with
      a := t.a, x := t.x, y := t.y, sp := t.sp, pc := t.pc, p := t.p, mem := t.mem, drawIndex := t.drawIndex } := by
  obtain ⟨u, hu, frame⟩ := exec_fields i s
  cases hu.symm.trans h
  exact frame

/-- Settles O52: every instruction completes, with the fields outside its frame as they were. -/
theorem everyInstructionCompletes : Obligations.EveryInstructionCompletes := by
  intro i s
  obtain ⟨t, ht, frame⟩ := exec_fields i s
  refine ⟨t, ht, ?_⟩
  rw [frame]
  exact ⟨rfl, rfl, rfl, rfl, rfl, rfl⟩

/-- A write changes no listed byte but that of its translated offset. -/
theorem Memory.get_memWrite_other (s : State) {a o : Word} (other : translateAddr a s.mode ≠ o) (v : Byte) :
    Memory.get (s.memWrite a v).mem o.toNat = Memory.get s.mem o.toNat := by
  rw [State.memWrite_mem]
  split
  · rfl
  · rw [Memory.get_set, if_neg (mt BitVec.eq_of_toNat_eq other)]

/-- An instruction leaves every Storage offset alone that none of its store addresses translates to. -/
theorem exec_storageRead_other {i : Instr} {s t : State} (h : exec i s = .next t) {o : Word}
    (other : ∀ a ∈ storesTo i s, translateAddr a s.mode ≠ o) : t.storageRead o = s.storageRead o := by
  have listed : Memory.get t.mem o.toNat = Memory.get s.mem o.toNat :=
    exec_mem h (fun m => Memory.get m o.toNat = Memory.get s.mem o.toNat) rfl fun u a v stored mode same =>
      (Memory.get_memWrite_other u (mode ▸ other a stored) v).trans same
  have ready : t.storageReady = s.storageReady := by rw [exec_frame h]
  rw [State.storageRead, State.storageRead, ready, listed]

/-- Settles O53: the frame over Storage offsets, and by the translation over logical addresses. -/
theorem memoryFrameOfEveryInstruction : Obligations.MemoryFrameOfEveryInstruction := by
  refine fun i s t h => ⟨fun o other => exec_storageRead_other h other, fun b other => ?_⟩
  have mode : t.mode = s.mode := by rw [exec_frame h]
  rw [State.peek, mode]
  exact exec_storageRead_other h other

/-! ### Stack round trips -/

/-- Restoring flags from a pushed status byte takes all of them but B and U. -/
theorem Status.restore_toByte (p pushed : Status) : p.restore pushed.toByte = { pushed with b := p.b, u := p.u } := by
  rw [Status.restore_eq, Status.ofByte_toByte]

/-- The slot a push at S wrote is the one a pull from S - 1 reads. -/
theorem State.pull_of_frame {s t : State} {v : Byte} (sp : t.sp = s.sp - 1#8)
    (bytes : ∀ o : Word, t.storageRead o = if o = stackAddr s.sp then v else s.storageRead o) :
    t.pull = (v, t.setSp s.sp) := by
  rw [State.pull_eq, sp, BitVec.sub_add_cancel, bytes, if_pos rfl]

section
variable {s t u : State} (ready : s.storageReady = true)
include ready

theorem jsr_then_rts {addr : Word} (jsr : exec (.jsr addr) s = .next t) (rts : exec .rts t = .next u) :
    u.pc = s.pc + 3#16 ∧ u.sp = s.sp := by
  obtain ⟨_, pushes, frame, bytes⟩ := jsrPushesTheLastByteAddress.2 s addr
  cases pushes.symm.trans jsr
  have sp : t.sp = s.sp - 2#8 := by rw [frame]
  have low : t.sp + 1#8 = s.sp - 1#8 := by bv_omega
  have high : t.sp + 2#8 = s.sp := by bv_omega
  have distinct : stackAddr (s.sp - 1#8) ≠ stackAddr s.sp := by rw [Ne, stackAddr_inj]; bv_omega
  rw [exec_rts, State.pullWord_eq, low, high, bytes ready, bytes ready, if_neg distinct, if_pos rfl, if_pos rfl,
    wordOf_lo_hi] at rts
  cases rts
  exact ⟨by rw [State.setPc_pc, BitVec.add_assoc]; rfl, rfl⟩

theorem php_then_plp (php : exec .php s = .next t) (plp : exec .plp t = .next u) : u.p = s.p ∧ u.sp = s.sp := by
  obtain ⟨_, pushes, frame, bytes⟩ := (stackPushesOfAAndP.2.2 s).2
  cases pushes.symm.trans php
  have pull := State.pull_of_frame (by rw [frame]) (bytes ready)
  have p : t.p = s.p := by rw [frame]
  rw [exec_plp, State.impliedForm, opPlp, pull, Status.toByte_or_break, Status.restore_toByte, State.setSp_p, p] at plp
  cases plp
  exact ⟨rfl, rfl⟩

theorem pha_then_pla (pha : exec .pha s = .next t) (pla : exec .pla t = .next u) : u.a = s.a ∧ u.sp = s.sp := by
  obtain ⟨_, pushes, frame, bytes⟩ := (stackPushesOfAAndP.2.2 s).1
  cases pushes.symm.trans pha
  have pull := State.pull_of_frame (by rw [frame]) (bytes ready)
  rw [exec_pla, State.impliedForm, opPla, pull] at pla
  cases pla
  exact ⟨rfl, rfl⟩

end

/-- Settles O35: each pull reads the slots its push wrote. -/
theorem stackRoundTrips : Obligations.StackRoundTrips :=
  fun _ ready => ⟨fun _ _ _ => jsr_then_rts ready, fun _ _ => php_then_plp ready, fun _ _ => pha_then_pla ready⟩

/-! ### BRK and RTI -/

theorem exec_rti (s : State) : exec .rti s = .next s.returnFromTrap := rfl

/-- Under either push order BRK pushes flags with B set, which differ from the old ones in B and I at most. -/
theorem brkPushedStatus_eq_toByte (s : State) :
    brkPushedStatus s = Status.toByte { s.p with
      b := true, i := if s.params.brkPushOrder = .document then true else s.p.i } := by
  rw [brkPushedStatus_eq, Status.toByte_or_break]
  split <;> rfl

/-- The frame BRK leaves, as the pulls of an RTI from that S read it. -/
theorem brk_frame {s t : State} (ready : s.storageReady = true) (brk : exec .brk s = .next t) :
    t.sp + 3#8 = s.sp ∧ t.storageRead (stackAddr (t.sp + 1#8)) = brkPushedStatus s ∧
      t.storageRead (stackAddr (t.sp + 2#8)) = loByte (s.pc + s.params.brkReturnOffset) ∧
      t.storageRead (stackAddr (t.sp + 3#8)) = hiByte (s.pc + s.params.brkReturnOffset) := by
  obtain ⟨_, enters, frame, bytes⟩ := brkEntersTheTrap.2.2.2 s
  cases enters.symm.trans brk
  have sp : t.sp = s.sp - 3#8 := by rw [frame]
  have one : t.sp + 1#8 = s.sp - 2#8 := by bv_omega
  have two : t.sp + 2#8 = s.sp - 1#8 := by bv_omega
  have three : t.sp + 3#8 = s.sp := by bv_omega
  have one_ne_three : s.sp - 2#8 ≠ s.sp := by bv_omega
  have one_ne_two : s.sp - 2#8 ≠ s.sp - 1#8 := by bv_omega
  have two_ne_three : s.sp - 1#8 ≠ s.sp := by bv_omega
  refine ⟨three, ?_, ?_, ?_⟩
  · rw [one, bytes ready, brkPushedStatus_eq]
    simp only [stackAddr_inj, one_ne_three, one_ne_two, if_false, if_true]
  · rw [two, bytes ready]
    simp only [stackAddr_inj, two_ne_three, if_false, if_true]
  · rw [three, bytes ready, if_pos rfl]

/-- Settles O40: RTI pulls the frame BRK pushed, whatever else the handler changed. -/
theorem brkThenRtiReturns : Obligations.BrkThenRtiReturns := by
  intro s t r u ready brk _ sp kept rti
  obtain ⟨bottom, status, low, high⟩ := brk_frame ready brk
  rw [exec_rti, State.returnFromTrap_eq, sp, kept _ (.inl rfl), kept _ (.inr (.inl rfl)), kept _ (.inr (.inr rfl)),
    status, low, high, bottom, wordOf_lo_hi, brkPushedStatus_eq_toByte, Status.restore_toByte] at rti
  cases rti
  exact ⟨rfl, rfl, rfl⟩

/-! ### The step -/

/-- Settles O44: no interrupt due leaves fetch, decode and exec; the default parameters leave exec alone. -/
theorem stepRunsTheDecodedInstruction : Obligations.StepRunsTheDecodedInstruction := by
  refine ⟨fun _ _ running noInterrupt => step_of_decode_ok running noInterrupt,
    fun s i running storage disconnected decoded => ?_⟩
  have sampled := s.sampleInputs_disconnected disconnected
  have fetched := s.fetch_storage storage
  have runs := step_of_decode_ok (i := i) running (by rw [sampled, s.interruptDue_disconnected disconnected])
    (by rw [sampled, fetched, decoded])
  rwa [sampled, fetched] at runs

end Sys2Proof.Machine

/-! Power-on, reset and the loader (70_reset_and_hazards.md R331 to R336, 20_memory.md R62). -/

namespace Sys2Proof.Machine

open Sys2Proof.Config

/-! ### Bytes cleared below the PRG window -/

/-- A zero written below the PRG window is read back as zero whether Storage is ready or not, since a Storage that is
not ready reads zero everywhere. -/
theorem State.storageRead_memWrite_zero (s : State) {a : Word} (below : a < 0x8000#16) (o : Word) :
    (s.memWrite a 0#8).storageRead o = if o = translateAddr a s.mode then 0#8 else s.storageRead o := by
  by_cases ready : s.storageReady = true
  · exact State.memWrite_storageRead_of_writable ⟨ready, .inl below⟩ 0#8 o
  · have notReady : s.storageReady = false := by simpa using ready
    rw [State.memWrite_notReady notReady, State.storageRead_notReady notReady, ite_self]

/-- The two sound registers power-on and reset clear are stored at their own addresses. -/
theorem translateAddr_sound (m : MemoryMode) :
    translateAddr 0x4015#16 m = 0x4015#16 ∧ translateAddr 0x4017#16 m = 0x4017#16 := by
  cases m <;> decide

/-- No address of the PRG window names a byte below it. -/
theorem translateAddr_prg_ge {a : Word} (prg : 0x8000 ≤ a.toNat) (m : MemoryMode) :
    0x8000 ≤ (translateAddr a m).toNat := by
  rw [translateAddr_toNat]
  split_ifs <;> omega

/-! ### Power-on (R331) -/

/-- Everything Storage's power-on does: it makes Storage ready, with the bytes it reads as before. -/
theorem State.storagePowerOn_eq (s : State) :
    s.storagePowerOn = (s.setMem s.storagePowerOn.mem).setStorageReady true := by
  cases ready : s.storageReady with
  | false => rw [State.storagePowerOn_notReady ready]; rfl
  | true => rw [State.storagePowerOn_ready ready, ← ready]; rfl

theorem State.storageRead_storagePowerOn_eq (s : State) (o : Word) :
    s.storagePowerOn.storageRead o = s.storageRead o := by
  cases ready : s.storageReady with
  | false => rw [State.storageRead_storagePowerOn ready, State.storageRead_notReady ready]
  | true => rw [State.storagePowerOn_ready ready]

/-- Everything power-on has done when it comes to load PC. -/
theorem State.powerOnBeforePc_eq (s : State) (m : MemoryMode) :
    s.powerOnBeforePc m = { s with
      a := 0x00#8
      x := 0x00#8
      y := 0x00#8
      sp := 0xFD#8
      p := Status.ofByte s.params.pPowerOn
      mode := m
      storageReady := true
      mem := (s.powerOnBeforePc m).mem } := by
  have written (t : State) : (t.memWrite 0x4015#16 0x00#8).memWrite 0x4017#16 0x00#8 =
      t.setMem ((t.memWrite 0x4015#16 0x00#8).memWrite 0x4017#16 0x00#8).mem := by
    rw [State.memWrite_eq (t.memWrite _ _), State.memWrite_eq t]
    rfl
  rw [State.powerOnBeforePc, written]
  generalize (State.memWrite _ _ _).mem = mem
  rw [State.storagePowerOn_eq]
  rfl

theorem State.powerOnBeforePc_storageRead (s : State) (m : MemoryMode) (o : Word) :
    (s.powerOnBeforePc m).storageRead o =
      if o = 0x4015#16 ∨ o = 0x4017#16 then 0#8 else s.storageRead o := by
  rw [State.powerOnBeforePc, State.storageRead_memWrite_zero _ (by decide),
    State.storageRead_memWrite_zero _ (by decide), State.memWrite_mode, (translateAddr_sound _).1,
    (translateAddr_sound _).2]
  by_cases first : o = 0x4015#16
  · simp only [first, true_or, if_true, ite_self]
  · by_cases second : o = 0x4017#16
    · simp only [second, or_true, if_true]
    · simp only [first, second, or_self, if_false]
      exact (State.storageRead_congr rfl rfl o).trans (s.storageRead_storagePowerOn_eq o)

/-- Loading PC and starting the engine leave Storage as the writes before left it. -/
theorem State.powerOn_storageRead (s : State) (m : MemoryMode) (o : Word) :
    (s.powerOn m).storageRead o = if o = 0x4015#16 ∨ o = 0x4017#16 then 0#8 else s.storageRead o := by
  rw [State.powerOn_eq, ← State.powerOnBeforePc_storageRead]
  rfl

/-- Everything power-on does to the state. -/
theorem State.powerOn_frame (s : State) (m : MemoryMode) :
    s.powerOn m = { s with
      a := 0x00#8
      x := 0x00#8
      y := 0x00#8
      sp := 0xFD#8
      pc := wordOf ((s.powerOn m).peek 0xFFFC#16) ((s.powerOn m).peek 0xFFFD#16)
      p := Status.ofByte s.params.pPowerOn
      engine := .running
      mode := m
      nmiPending := false
      storageReady := true
      mem := (s.powerOn m).mem } := by
  have peek (a : Word) : (s.powerOn m).peek a = (s.powerOnBeforePc m).peek a := by rw [State.powerOn_eq]; rfl
  have mem : (s.powerOn m).mem = (s.powerOnBeforePc m).mem := by rw [State.powerOn_eq]; rfl
  rw [peek, peek, mem, State.powerOn_eq]
  generalize wordOf _ _ = vector
  rw [State.powerOnBeforePc_eq]
  rfl

/-- Settles O56: the registers and sound bytes are written first, and no later write changes what PC is loaded from. -/
theorem powerOnSequence : Obligations.PowerOnSequence := by
  refine ⟨rfl, fun s m => ?_⟩
  have frame := s.powerOn_frame m
  have p : (s.powerOn m).p = Status.ofByte s.params.pPowerOn := by rw [frame]
  refine ⟨rfl, ?_, (congrArg Status.toByte p).trans (Status.toByte_ofByte _), s.powerOn_storageRead m⟩
  rw [p]
  exact frame

/-! ### Reset (R333 to R335) -/

theorem State.hostReset_powered {s : State} (powered : s.engine ≠ .unpowered) : s.hostReset = .ok s.resetSequence := by
  cases engine : s.engine with
  | unpowered => exact absurd engine powered
  | running | halted => simp only [State.hostReset, engine]

/-- A write below the PRG window leaves the bytes of that window, and so the vectors, alone. -/
theorem State.peek_prg_of_memWrite_sound (s : State) {a : Word} (prg : 0x8000 ≤ a.toNat) (v : Byte) :
    (s.memWrite 0x4015#16 v).peek a = s.peek a := by
  have other : translateAddr a s.mode ≠ translateAddr 0x4015#16 s.mode := by
    rw [(translateAddr_sound s.mode).1]
    intro same
    have := translateAddr_prg_ge prg s.mode
    rw [same] at this
    exact absurd this (by decide)
  rw [State.peek, State.memWrite_mode, State.memWrite_storageRead_other s other, State.peek]

/-- Everything the reset sequence does to the state. -/
theorem State.resetSequence_frame (s : State) :
    s.resetSequence = { s with
      sp := s.sp - 3#8
      p := { s.p with i := true }
      pc := if s.params.resetLoadsPc then wordOf (s.peek 0xFFFC#16) (s.peek 0xFFFD#16) else s.pc
      engine := .running
      nmiPending := false
      mem := (s.memWrite 0x4015#16 0x00#8).mem } := by
  have written : ((s.setSp (s.sp - 3#8)).setP { s.p with i := true }).memWrite 0x4015#16 0x00#8 =
      ((s.setSp (s.sp - 3#8)).setP { s.p with i := true }).setMem (s.memWrite 0x4015#16 0x00#8).mem := by
    rw [State.memWrite_eq, State.memWrite_mem, State.memWrite_mem]
    rfl
  simp only [State.resetSequence]
  rw [State.read16_notIo _ (by decide) (by decide), State.peek_prg_of_memWrite_sound _ (by decide),
    State.peek_prg_of_memWrite_sound _ (by decide), written]
  generalize (s.memWrite 0x4015#16 0x00#8).mem = mem
  split <;> rfl

/-- Settles O57: a powered engine runs the reset sequence, whose one write clears 0x4015. -/
theorem resetSequence : Obligations.ResetSequence := by
  refine ⟨rfl, fun s => ?_⟩
  have frame := s.resetSequence_frame
  have mem : s.resetSequence.mem = (s.memWrite 0x4015#16 0x00#8).mem := by rw [frame]
  have ready : s.resetSequence.storageReady = (s.memWrite 0x4015#16 0x00#8).storageReady := by
    rw [frame, State.memWrite_storageReady]
  refine ⟨State.hostReset_unpowered, fun powered => ⟨_, State.hostReset_powered powered, ?_, fun o => ?_⟩⟩
  · rw [mem]
    exact frame
  · rw [State.storageRead_congr mem ready, State.storageRead_memWrite_zero s (by decide),
      (translateAddr_sound s.mode).1]

/-! ### The loader (R62, R336) -/

theorem State.storageWrite_storageReady (s : State) (o : Word) (v : Byte) :
    (s.storageWrite o v).storageReady = s.storageReady := by
  rw [State.storageWrite_eq]
  rfl

/-- Everything a load does: the field `mem`, nothing else. -/
theorem State.storageLoadBytes_eq (s : State) (offset : Nat) (bytes : List Byte) :
    s.storageLoadBytes offset bytes = s.setMem (s.storageLoadBytes offset bytes).mem := by
  induction bytes generalizing s offset with
  | nil => rfl
  | cons v rest ih =>
    rw [State.storageLoadBytes, ih, State.storageWrite_eq]
    rfl

/-- The bytes a load that fits leaves: its own at ascending offsets, the old ones everywhere else. -/
theorem State.storageLoadBytes_storageRead {s : State} (ready : s.storageReady = true) {offset : Nat}
    {bytes : List Byte} (fits : offset + bytes.length ≤ 65536) (o : Word) :
    (s.storageLoadBytes offset bytes).storageRead o =
      if h : offset ≤ o.toNat ∧ o.toNat < offset + bytes.length then bytes[o.toNat - offset]'(by omega)
      else s.storageRead o := by
  induction bytes generalizing s offset with
  | nil => rw [dif_neg (by simp only [List.length_nil]; omega)]; rfl
  | cons v rest ih =>
    simp only [List.length_cons] at fits ⊢
    have first : BitVec.ofNat 16 offset = o ↔ o.toNat = offset := by
      rw [← BitVec.toNat_inj, BitVec.toNat_ofNat, Nat.mod_eq_of_lt (by omega), eq_comm]
    rw [State.storageLoadBytes, ih ((s.storageWrite_storageReady _ v).trans ready) (by omega),
      State.storageRead_storageWrite s _ v o ready]
    simp only [first]
    by_cases head : o.toNat = offset
    · rw [dif_neg (by omega), if_pos head, dif_pos (by omega)]
      simp only [head, Nat.sub_self, List.getElem_cons_zero]
    · by_cases tail : offset + 1 ≤ o.toNat ∧ o.toNat < offset + 1 + rest.length
      · rw [dif_pos tail, dif_pos (by omega)]
        simp only [show o.toNat - offset = (o.toNat - (offset + 1)) + 1 by omega, List.getElem_cons_succ]
      · rw [dif_neg tail, if_neg head, dif_neg (by omega)]

theorem State.storageLoad_fits (s : State) {offset : Word} {bytes : List Byte}
    (fits : offset.toNat + bytes.length ≤ 65536) :
    s.storageLoad offset bytes = .next (s.storageLoadBytes offset.toNat bytes) :=
  if_neg (Nat.not_lt.mpr fits)

/-- The boot order for an image the loader accepts, which always fits Storage. -/
theorem State.boot_of_fits (s : State) (prgSize : Byte) {prg : List Byte} (fits : prg.length ≤ 32768) :
    s.boot prgSize prg = .next ((s.storagePowerOn.storageLoadBytes 0x8000 prg).powerOn (loaderMode prgSize)) := by
  have loads : s.storagePowerOn.storageLoad 0x8000#16 prg = .next (s.storagePowerOn.storageLoadBytes 0x8000 prg) :=
    State.storageLoad_fits _ (Nat.add_le_add_left fits 0x8000)
  simp only [State.boot, if_neg (Nat.not_lt.mpr fits), loads]

theorem State.storagePowerOn_storageReady (s : State) : s.storagePowerOn.storageReady = true := by
  rw [State.storagePowerOn_eq]
  rfl

/-- Power-on clears no byte of the image, which is loaded above the sound registers. -/
theorem State.booted_storageRead (s : State) (m : MemoryMode) {prg : List Byte} (fits : prg.length ≤ 32768) {k : Nat}
    (h : k < prg.length) :
    ((s.storagePowerOn.storageLoadBytes 0x8000 prg).powerOn m).storageRead (BitVec.ofNat 16 (0x8000 + k)) = prg[k] := by
  have offset : (BitVec.ofNat 16 (0x8000 + k)).toNat = 0x8000 + k := by
    rw [BitVec.toNat_ofNat, Nat.mod_eq_of_lt (by omega)]
  have notSound : ¬(BitVec.ofNat 16 (0x8000 + k) = 0x4015#16 ∨ BitVec.ofNat 16 (0x8000 + k) = 0x4017#16) := by
    rw [← BitVec.toNat_inj, ← BitVec.toNat_inj, offset]
    simp only [BitVec.toNat_ofNat]
    omega
  rw [State.powerOn_storageRead, if_neg notSound,
    State.storageLoadBytes_storageRead s.storagePowerOn_storageReady (by omega), dif_pos (by omega)]
  simp only [offset, Nat.add_sub_cancel_left]

/-- Settles O13: a load is the writes of its bytes in order, and boot is a load between the two power-ons. -/
theorem loadAndBoot : Obligations.LoadAndBoot := by
  refine ⟨fun s offset bytes ready => ⟨fun fits => ⟨_, s.storageLoad_fits fits, s.storageLoadBytes_eq _ _,
    State.storageLoadBytes_storageRead ready fits⟩, fun past => if_pos past⟩, fun s prgSize prg =>
    ⟨fun fits => ⟨_, s.boot_of_fits prgSize fits, ?_, ?_, ?_, fun k => s.booted_storageRead _ fits⟩,
      fun large => if_pos large⟩⟩
  · rw [State.powerOn_frame]
  · rw [State.powerOn_frame]; rfl
  · conv_lhs => rw [State.powerOn_frame]

end Sys2Proof.Machine

/-! What every step and every host operation keeps: the machine's invariant, its configuration, U and B (10_state.md
sections 2, 3 and 5; 60_exceptions.md section 4). -/

namespace Sys2Proof.Machine

open Sys2Proof.Config

/-! ### The invariant, operation by operation -/

section
variable {s t : State} (inv : s.Inv)
include inv

/-- The invariant is kept where memory stays canonical, a powered engine has Storage, and the inputs are left alone but
for an NMI that is cleared. -/
theorem State.Inv.keep (mem : Memory.wf t.mem = true) (ready : t.engine ≠ .unpowered → t.storageReady = true)
    (params : t.params = s.params) (pending : t.nmiPending = s.nmiPending ∨ t.nmiPending = false)
    (nmi : t.nmiLine = s.nmiLine) (irq : t.irqLine = s.irqLine) : t.Inv := by
  obtain ⟨-, -, quiet⟩ := inv
  refine ⟨mem, ready, fun disconnected => ?_⟩
  obtain ⟨noNmi, nmiInactive, irqInactive⟩ := quiet (params ▸ disconnected)
  exact ⟨pending.elim (·.trans noNmi) id, nmi.trans nmiInactive, irq.trans irqInactive⟩

/-- The draw counter is no part of the invariant. -/
theorem State.Inv.setDrawIndex (d : Nat) : (s.setDrawIndex d).Inv := inv

/-- Halting a powered engine keeps the invariant. -/
theorem State.Inv.setEngine (powered : s.engine ≠ .unpowered) (e : EngineState) : (s.setEngine e).Inv :=
  inv.keep inv.1 (fun _ => inv.2.1 powered) rfl (.inl rfl) rfl rfl

/-- Driving the inputs does nothing where they are disconnected, and connected ones are not constrained. -/
theorem State.Inv.driveInputs (nmi irq : Bool) : (s.driveInputs nmi irq).Inv := by
  cases connected : s.params.interruptsConnected with
  | false => simpa only [State.driveInputs, connected, Bool.false_eq_true, if_false] using inv
  | true =>
    rw [State.driveInputs_connected connected]
    exact ⟨inv.1, inv.2.1, fun disconnected => nomatch connected.symm.trans disconnected⟩

theorem State.Inv.sampleInputs : s.sampleInputs.Inv := by
  cases connected : s.params.interruptsConnected with
  | false => rwa [State.sampleInputs_disconnected s connected]
  | true =>
    rw [State.sampleInputs_connected connected]
    exact (inv.driveInputs _ _).setDrawIndex _

theorem State.Inv.fetch : s.fetch.2.Inv := by
  rw [State.fetch_state]
  exact inv.setDrawIndex _

theorem State.Inv.enterInterrupt (src : Interrupt) : (s.enterInterrupt src).Inv := by
  refine inv.keep (s.enterInterrupt_wf src inv.1) ?_ (s.enterInterrupt_params src) ?_ (s.enterInterrupt_nmiLine src)
    (s.enterInterrupt_irqLine src)
  · rw [State.enterInterrupt_engine, State.enterInterrupt_storageReady]
    exact inv.2.1
  · rw [State.enterInterrupt_nmiPending]
    cases src
    · exact .inr rfl
    · exact .inl rfl

theorem State.Inv.exec {i : Instr} (h : exec i s = .next t) : t.Inv := by
  have frame := exec_frame h
  refine inv.keep (exec_wf h inv.1) ?_ ?_ (.inl ?_) ?_ ?_
  all_goals rw [frame]
  exact inv.2.1

end

/-- Settles O48: a next state is that of an interrupt entry or of an instruction, after sampling and the fetch; a halted
state is the one found or the one a fetch left. -/
theorem stepKeepsTheInvariant : Obligations.StepKeepsTheInvariant := by
  refine fun s inv => ⟨fun t next => ?_, fun k t halts => ?_⟩
  · obtain ⟨-, ⟨src, -, rfl⟩ | ⟨-, i, -, hexec⟩⟩ := step_next_cases next
    · exact inv.sampleInputs.enterInterrupt src
    · exact inv.sampleInputs.fetch.exec hexec
  · cases engine : s.engine with
    | unpowered => cases (step_unpowered engine).symm.trans halts
    | halted k' =>
      cases (step_halted engine).symm.trans halts
      exact inv
    | running =>
      cases (step_running_fault engine halts).2
      refine inv.sampleInputs.fetch.setEngine ?_ _
      rw [State.fetch_engine, State.sampleInputs_engine, engine]
      exact nofun

/-! ### The host's operations -/

/-- Every write to Storage keeps the canonical form of memory. -/
theorem State.storageWrite_wf {s : State} (h : Memory.wf s.mem = true) (o : Word) (v : Byte) :
    Memory.wf (s.storageWrite o v).mem = true := by
  rw [State.storageWrite_eq]
  split
  · exact Memory.wf_set h o.isLt v
  · exact h

theorem State.storageLoadBytes_wf {s : State} (h : Memory.wf s.mem = true) (offset : Nat) (bytes : List Byte) :
    Memory.wf (s.storageLoadBytes offset bytes).mem = true := by
  induction bytes generalizing s offset with
  | nil => exact h
  | cons v rest ih => exact ih (State.storageWrite_wf h _ v) _

theorem State.storagePowerOn_wf {s : State} (h : Memory.wf s.mem = true) : Memory.wf s.storagePowerOn.mem = true := by
  cases ready : s.storageReady with
  | false => rw [State.storagePowerOn_notReady ready]; rfl
  | true => rwa [State.storagePowerOn_ready ready]

theorem State.powerOn_wf {s : State} (h : Memory.wf s.mem = true) (m : MemoryMode) :
    Memory.wf (s.powerOn m).mem = true := by
  rw [State.powerOn_eq]
  exact State.memWrite_wf _ _ _ (State.memWrite_wf _ _ _ (State.storagePowerOn_wf h))

section
variable {s : State} (inv : s.Inv)
include inv

theorem State.Inv.storagePowerOn : s.storagePowerOn.Inv := by
  have mem := State.storagePowerOn_wf inv.1
  rw [State.storagePowerOn_eq]
  exact inv.keep mem (fun _ => rfl) rfl (.inl rfl) rfl rfl

theorem State.Inv.powerOn (m : MemoryMode) : (s.powerOn m).Inv := by
  have frame := s.powerOn_frame m
  refine inv.keep (State.powerOn_wf inv.1 m) (fun _ => ?_) ?_ (.inr ?_) ?_ ?_
  all_goals rw [frame]

theorem State.Inv.resetSequence (powered : s.engine ≠ .unpowered) : s.resetSequence.Inv := by
  have frame := s.resetSequence_frame
  refine inv.keep ?_ (fun _ => ?_) ?_ (.inr ?_) ?_ ?_
  all_goals rw [frame]
  · exact State.memWrite_wf s _ _ inv.1
  · exact inv.2.1 powered

theorem State.Inv.hostReset {t : State} (h : s.hostReset = .ok t) : t.Inv := by
  rcases eq_or_ne s.engine .unpowered with unpowered | powered
  · cases (State.hostReset_unpowered unpowered).symm.trans h
  · cases (State.hostReset_powered powered).symm.trans h
    exact inv.resetSequence powered

theorem State.Inv.storageLoadBytes (offset : Nat) (bytes : List Byte) : (s.storageLoadBytes offset bytes).Inv := by
  have mem := State.storageLoadBytes_wf inv.1 offset bytes
  rw [State.storageLoadBytes_eq]
  exact inv.keep mem inv.2.1 rfl (.inl rfl) rfl rfl

theorem State.Inv.storageLoad {offset : Word} {bytes : List Byte} {t : State}
    (h : s.storageLoad offset bytes = .next t) : t.Inv := by
  by_cases past : 65536 < offset.toNat + bytes.length
  · cases (show s.storageLoad offset bytes = _ from if_pos past).symm.trans h
  · cases (s.storageLoad_fits (Nat.not_lt.mp past)).symm.trans h
    exact inv.storageLoadBytes _ _

theorem State.Inv.boot {prgSize : Byte} {prg : List Byte} {t : State} (h : s.boot prgSize prg = .next t) : t.Inv := by
  by_cases large : 32768 < prg.length
  · cases (show s.boot prgSize prg = _ from if_pos large).symm.trans h
  · cases (s.boot_of_fits prgSize (Nat.not_lt.mp large)).symm.trans h
    exact (inv.storagePowerOn.storageLoadBytes _ _).powerOn _

theorem State.Inv.memRead (a : Word) : (s.memRead a).2.Inv := by
  rw [State.memRead_state]
  exact inv.setDrawIndex _

theorem State.Inv.memWrite (a : Word) (v : Byte) : (s.memWrite a v).Inv := by
  have mem := State.memWrite_wf s a v inv.1
  rw [State.memWrite_eq]
  exact inv.keep mem inv.2.1 rfl (.inl rfl) rfl rfl

end

/-- Settles O50: each operation by its own lemma; boot is a load between the two power-ons. -/
theorem hostOperationsKeepTheInvariant : Obligations.HostOperationsKeepTheInvariant :=
  fun _ inv => ⟨inv.storagePowerOn, inv.powerOn, fun _ => inv.hostReset, fun _ _ _ => inv.storageLoad,
    fun _ _ _ => inv.boot, inv.memRead, inv.memWrite, inv.driveInputs⟩

theorem State.unpowered_inv : State.unpowered.Inv :=
  ⟨rfl, fun powered => absurd rfl powered, fun _ => ⟨rfl, rfl, rfl⟩⟩

theorem State.reset_eq_powerOn : State.reset = State.unpowered.powerOn .nrom256 := by
  decide

/-- Settles O49: reset is a power-on of the unpowered machine, which meets the invariant. -/
theorem resetStateMeetsTheInvariant : Obligations.ResetStateMeetsTheInvariant :=
  ⟨State.reset_eq_powerOn ▸ State.unpowered_inv.powerOn .nrom256, State.reset_eq_powerOn, rfl, rfl, rfl, rfl, rfl, rfl,
    rfl⟩

/-! ### Configuration, U and B -/

/-- Bits 4 and 5 of the status byte are B and U. -/
theorem Status.toByte_and_sticky (p : Status) : p.toByte &&& 0x30#8 = 0x30#8 ↔ p.u = true ∧ p.b = true := by
  obtain ⟨n, v, u, b, d, i, z, c⟩ := p
  revert n v u b d i z c
  decide

/-- A step that completes keeps MemoryMode, the parameters and Storage's readiness. -/
theorem step_keeps_configuration {s t : State} (h : step s = .next t) :
    t.mode = s.mode ∧ t.params = s.params ∧ t.storageReady = s.storageReady := by
  obtain ⟨-, ⟨src, -, rfl⟩ | ⟨-, i, -, hexec⟩⟩ := step_next_cases h
  · simp only [State.enterInterrupt_mode, State.enterInterrupt_params, State.enterInterrupt_storageReady,
      State.sampleInputs_mode, State.sampleInputs_params, State.sampleInputs_storageReady, and_self]
  · rw [exec_frame hexec]
    simp only [State.fetch_mode, State.fetch_params, State.fetch_storageReady, State.sampleInputs_mode,
      State.sampleInputs_params, State.sampleInputs_storageReady, and_self]

/-- A step that completes does not write U and does not clear B: an interrupt entry writes I alone. -/
theorem step_keeps_u_b {s t : State} (h : step s = .next t) : t.p.u = s.p.u ∧ (s.p.b = true → t.p.b = true) := by
  obtain ⟨-, ⟨src, -, rfl⟩ | ⟨-, i, -, hexec⟩⟩ := step_next_cases h
  · rw [State.enterInterrupt_p, State.sampleInputs_p]
    exact ⟨rfl, id⟩
  · simpa only [State.fetch_p, State.sampleInputs_p] using exec_keeps_u_b hexec

/-- Settles O51: the configuration by the frames, and bits 4 and 5 of P from what a step does to B and U. -/
theorem stepKeepsConfigurationAndStickyFlags : Obligations.StepKeepsConfigurationAndStickyFlags := by
  intro s t next
  obtain ⟨mode, params, ready⟩ := step_keeps_configuration next
  obtain ⟨u, b⟩ := step_keeps_u_b next
  refine ⟨(step_next_cases next).1, step_next_running next, mode, params, ready, u, b, ?_⟩
  rw [Status.toByte_and_sticky, Status.toByte_and_sticky]
  exact And.imp u.trans b

end Sys2Proof.Machine

/-! What an instruction does not read: D, and under IO_MODEL = storage the draw counter (10_state.md section 2,
92_eei_decisions.md D16; 40_engine.md R123 and section 5). -/

namespace Sys2Proof.Machine

open Sys2Proof.Config

/-- The state with another D and another draw counter, each where one is given. -/
def State.withUnread (s : State) (d : Option Bool) (k : Option Nat) : State :=
  { s with p := { s.p with d := d.getD s.p.d }, drawIndex := k.getD s.drawIndex }

/-! ### The operations commute with replacing what they do not read -/

section
variable {s : State} {d : Option Bool} {k : Option Nat}

theorem State.memWrite_withUnread (a : Word) (v : Byte) :
    (s.withUnread d k).memWrite a v = (s.memWrite a v).withUnread d k := by
  have mem : ((s.withUnread d k).memWrite a v).mem = (s.memWrite a v).mem :=
    (State.memWrite_mem _ a v).trans (State.memWrite_mem s a v).symm
  rw [State.memWrite_eq, mem, State.memWrite_eq s]
  rfl

theorem State.push_withUnread (v : Byte) : (s.withUnread d k).push v = (s.push v).withUnread d k :=
  congrArg (State.setSp · (s.sp - 1#8)) (State.memWrite_withUnread (stackAddr s.sp) v)

theorem State.pushWord_withUnread (w : Word) : (s.withUnread d k).pushWord w = (s.pushWord w).withUnread d k := by
  rw [State.pushWord, State.push_withUnread, State.push_withUnread, State.pushWord]

theorem State.pull_withUnread : (s.withUnread d k).pull = (s.pull.1, s.pull.2.withUnread d k) := by
  rw [State.pull_eq, State.pull_eq]
  rfl

theorem State.pullWord_withUnread : (s.withUnread d k).pullWord = (s.pullWord.1, s.pullWord.2.withUnread d k) := by
  rw [State.pullWord_eq, State.pullWord_eq]
  rfl

/-- An operation of Register kind that commutes does so on its path. -/
theorem State.impliedForm_withUnread {op : State → State} (hop : ∀ t, op (t.withUnread d k) = (op t).withUnread d k) :
    (s.withUnread d k).impliedForm op = (s.impliedForm op).withUnread d k := by
  rw [State.impliedForm, hop]
  rfl

theorem State.accumulatorForm_withUnread {op : Byte → State → Byte × State}
    (hop : ∀ m t, op m (t.withUnread d k) = ((op m t).1, (op m t).2.withUnread d k)) :
    (s.withUnread d k).accumulatorForm op = (s.accumulatorForm op).withUnread d k := by
  have value : (s.withUnread d k).a = s.a := rfl
  rw [State.accumulatorForm, value, hop]
  rfl

/-- Reads take no free value, or the draw counter is not replaced. -/
abbrev State.ReadsSameWith (s : State) (k : Option Nat) : Prop := s.params.ioModel = .storage ∨ k = none

theorem State.memRead_withUnread (h : s.ReadsSameWith k) (a : Word) :
    (s.withUnread d k).memRead a = ((s.memRead a).1, (s.memRead a).2.withUnread d k) := by
  rcases h with storage | rfl
  · rw [State.memRead_storage (s.withUnread d k) storage, s.memRead_storage storage]
    rfl
  · have params : (s.withUnread d none).params = s.params := rfl
    simp only [State.memRead, params]
    split <;> rfl

theorem State.read16_withUnread (h : s.ReadsSameWith k) (lo hi : Word) :
    (s.withUnread d k).read16 lo hi = ((s.read16 lo hi).1, (s.read16 lo hi).2.withUnread d k) := by
  have after : (s.memRead lo).2.ReadsSameWith k := by rw [State.memRead_state]; exact h
  simp only [State.read16, State.memRead_withUnread h, State.memRead_withUnread after]

theorem State.resolve_withUnread (h : s.ReadsSameWith k) (mode : Mode) (w : Word) :
    (s.withUnread d k).resolve mode w = ((s.resolve mode w).1, (s.resolve mode w).2.withUnread d k) := by
  cases mode with
  | indirectAbsolute => exact State.read16_withUnread h _ _
  | indexedIndirectDPX => exact State.read16_withUnread h _ _
  | indirectIndexedDPY =>
    have pointer := State.read16_withUnread (d := d) h (zext (loByte w)) (zext (loByte w + 1#8))
    simp only [State.resolve, State.zeroPagePointer, pointer]
    rfl
  | _ => rfl

theorem State.operandRead_withUnread (h : s.ReadsSameWith k) (mode : Mode) (w : Word) :
    (s.withUnread d k).operandRead mode w = ((s.operandRead mode w).1, (s.operandRead mode w).2.withUnread d k) := by
  have after : (s.resolve mode w).2.ReadsSameWith k := by rw [State.resolve_state]; exact h
  have read := State.memRead_withUnread (d := d) after (s.resolve mode w).1
  rcases eq_or_ne mode .accumulator with rfl | notAccumulator
  · rfl
  rcases eq_or_ne mode .immediate with rfl | notImmediate
  · rfl
  rw [State.operandRead_memory _ _ _ notAccumulator notImmediate, State.resolve_withUnread h, read,
    State.operandRead_memory _ _ _ notAccumulator notImmediate]

theorem State.registerForm_withUnread (h : s.ReadsSameWith k) {op : Byte → State → State}
    (hop : ∀ m t, op m (t.withUnread d k) = (op m t).withUnread d k) (mode : Mode) (w : Word) :
    (s.withUnread d k).registerForm mode w op = (s.registerForm mode w op).withUnread d k := by
  simp only [State.registerForm, State.operandRead_withUnread h, hop]
  rfl

theorem State.memoryForm_withUnread (h : s.ReadsSameWith k) {op : Byte → State → Byte × State}
    (hop : ∀ m t, op m (t.withUnread d k) = ((op m t).1, (op m t).2.withUnread d k)) (mode : Mode) (w : Word) :
    (s.withUnread d k).memoryForm mode w op = (s.memoryForm mode w op).withUnread d k := by
  have after : (s.resolve mode w).2.ReadsSameWith k := by rw [State.resolve_state]; exact h
  simp only [State.memoryForm, State.resolve_withUnread h, State.memRead_withUnread after, hop,
    State.memWrite_withUnread]
  rfl

theorem State.takeTrap_withUnread (h : s.ReadsSameWith k) (ret : Word) (status : Byte) (vector : Word) :
    (s.withUnread d k).takeTrap ret status vector = (s.takeTrap ret status vector).withUnread d k := by
  have params : ((s.pushWord ret).push status).params = s.params := by rw [State.push_eq, State.pushWord_eq]; rfl
  have after : ((s.pushWord ret).push status).ReadsSameWith k := by rwa [State.ReadsSameWith, params]
  simp only [State.takeTrap, State.pushWord_withUnread, State.push_withUnread, State.read16_withUnread after]
  generalize State.read16 _ _ _ = read
  rfl

theorem execBrk_withUnread (h : s.ReadsSameWith k) :
    execBrk (s.withUnread none k) = mapOutcome (State.withUnread · none k) (execBrk s) := by
  have flags : (s.withUnread none k).setP { (s.withUnread none k).p with b := true, i := true } =
      (s.setP { s.p with b := true, i := true }).withUnread none k := rfl
  have status : brkPushedStatus (s.withUnread none k) = brkPushedStatus s := rfl
  have pc : (s.withUnread none k).pc = s.pc := rfl
  have params : (s.withUnread none k).params = s.params := rfl
  have enters := State.takeTrap_withUnread (s := s.setP { s.p with b := true, i := true }) (d := none) h
    (s.pc + s.params.brkReturnOffset) (brkPushedStatus s) 0xFFFE#16
  rw [execBrk, flags, status, pc, params, enters]
  rfl

theorem opPla_withUnread (s : State) : opPla (s.withUnread d k) = (opPla s).withUnread d k := by
  rw [opPla_eq, opPla_eq]
  rfl

theorem opPlp_withUnread (s : State) : opPlp (s.withUnread none k) = (opPlp s).withUnread none k := by
  rw [opPlp_eq, opPlp_eq]
  rfl

theorem State.returnFromTrap_withUnread :
    (s.withUnread none k).returnFromTrap = s.returnFromTrap.withUnread none k := by
  rw [State.returnFromTrap_eq, State.returnFromTrap_eq]
  rfl

end

/-- An instruction commutes with replacing what it does not read; PHP and BRK push D, and PLP, RTI, CLD and SED write
it, so those keep D as it is. -/
theorem exec_withUnread {i : Instr} {s : State} {d : Option Bool} {k : Option Nat} (h : s.ReadsSameWith k)
    (hd : i.mnemonic ∈ ([.php, .brk, .plp, .rti, .cld, .sed] : List Mnemonic) → d = none) :
    exec i (s.withUnread d k) = mapOutcome (State.withUnread · d k) (exec i s) := by
  rw [exec_eq_byMnemonic, exec_eq_byMnemonic]
  unfold execByMnemonic
  cases mnemonic : i.mnemonic <;> simp only [mnemonic] at hd ⊢
  case adc | sbc | cmp | cpx | cpy | and | ora | eor | bit | lda | ldx | ldy =>
    exact congrArg _ (State.registerForm_withUnread h (fun _ _ => rfl) _ _)
  case inc | dec | sta | stx | sty =>
    exact congrArg _ (State.memoryForm_withUnread h (fun _ _ => rfl) _ _)
  case asl | lsr | rol | ror =>
    by_cases accumulator : i.mode = .accumulator
    · simp only [accumulator, if_true]
      exact congrArg _ (State.accumulatorForm_withUnread fun _ _ => rfl)
    · simp only [accumulator, if_false]
      exact congrArg _ (State.memoryForm_withUnread h (fun _ _ => rfl) _ _)
  case jmp =>
    by_cases absolute : i.mode = .absolute
    · simp only [absolute, if_true]
      rfl
    · simp only [absolute, if_false, execJmpIndirectAbsolute, State.resolve_withUnread h]
      rfl
  case jsr => exact congrArg (fun t => Host.Outcome.next (State.setPc t i.operand)) (State.pushWord_withUnread _)
  case rts =>
    simp only [execRts, State.pullWord_withUnread]
    rfl
  case pha => exact congrArg _ (State.impliedForm_withUnread fun t => State.push_withUnread t.a)
  case pla => exact congrArg _ (State.impliedForm_withUnread opPla_withUnread)
  case cld | sed =>
    cases hd (by decide)
    rfl
  case php =>
    cases hd (by decide)
    exact congrArg _ (State.impliedForm_withUnread fun t =>
      State.push_withUnread (Status.toByte { t.p with b := true }))
  case plp =>
    cases hd (by decide)
    exact congrArg _ (State.impliedForm_withUnread opPlp_withUnread)
  case brk =>
    cases hd (by decide)
    exact execBrk_withUnread h
  case rti =>
    cases hd (by decide)
    exact congrArg _ State.returnFromTrap_withUnread
  all_goals rfl

/-! ### D -/

/-- The instructions that write D do so whatever it held. -/
theorem exec_overwrites_d {i : Instr} (h : i.mnemonic ∈ ([.plp, .rti, .cld, .sed] : List Mnemonic)) (s : State)
    (f : Bool) : exec i (s.withUnread (some f) none) = exec i s := by
  rw [exec_eq_byMnemonic, exec_eq_byMnemonic, execByMnemonic, execByMnemonic]
  simp only [List.mem_cons, List.not_mem_nil, or_false] at h
  rcases h with plp | rti | cld | sed
  · simp only [plp, execPlp, State.impliedForm, opPlp_eq, Status.restore_eq]
    rfl
  · simp only [rti, execRti, State.returnFromTrap_eq, Status.restore_eq]
    rfl
  · simp only [cld]
    rfl
  · simp only [sed]
    rfl

/-- Settles O54: an instruction writes D, and then regardless of the old one, or it carries D along unread. -/
theorem decimalFlagIsOnlyPushed : Obligations.DecimalFlagIsOnlyPushed := by
  intro i s f notPhp notBrk
  obtain ⟨t, ht, -⟩ := exec_fields i s
  by_cases writes : i.mnemonic ∈ ([.plp, .rti, .cld, .sed] : List Mnemonic)
  · exact ⟨t, t, ht, (exec_overwrites_d writes s f).trans ht, rfl⟩
  · have unread := exec_withUnread (i := i) (s := s) (d := some f) (k := none) (.inr rfl) fun uses => by
      simp_all
    rw [ht] at unread
    exact ⟨t, t.withUnread (some f) none, ht, unread, rfl⟩

/-! ### The draw counter -/

/-- Where stored bytes fail to decode and nothing stands around the fetch, the engine halts in the state it found. -/
theorem step_of_stored_error {s : State} (running : s.engine = .running) (storage : s.params.ioModel = .storage)
    (disconnected : s.params.interruptsConnected = false) {kind : DecodeError}
    (undecoded : decode [s.peek s.pc, s.peek (s.pc + 1#16), s.peek (s.pc + 2#16)] = .error kind) :
    step s = .fault (.halted kind (s.setEngine (.halted kind))) := by
  have sampled := s.sampleInputs_disconnected disconnected
  have fetched := s.fetch_storage storage
  have halts := step_of_decode_error (k := kind) running (by rw [sampled, s.interruptDue_disconnected disconnected])
    (by rw [sampled, fetched, undecoded])
  rwa [sampled, fetched] at halts

/-- Without draws a step carries the draw counter along unread: each branch of the step is the same for any counter. -/
theorem step_withUnread {s : State} (storage : s.params.ioModel = .storage)
    (disconnected : s.params.interruptsConnected = false) (k : Option Nat) :
    step (s.withUnread none k) = mapOutcome (State.withUnread · none k) (step s) := by
  have runs := stepRunsTheDecodedInstruction.2
  cases engine : s.engine with
  | unpowered =>
    rw [step_unpowered engine, step_unpowered (s := s.withUnread none k) engine]
    rfl
  | halted kind =>
    rw [step_halted engine, step_halted (s := s.withUnread none k) engine]
    rfl
  | running =>
    cases decoded : decode [s.peek s.pc, s.peek (s.pc + 1#16), s.peek (s.pc + 2#16)] with
    | error kind =>
      rw [step_of_stored_error engine storage disconnected decoded,
        step_of_stored_error (s := s.withUnread none k) engine storage disconnected decoded]
      rfl
    | ok i =>
      rw [runs s i engine storage disconnected decoded,
        runs (s.withUnread none k) i engine storage disconnected decoded]
      exact exec_withUnread (.inl storage) fun _ => rfl

/-- Settles O55: the draw counter is carried along unread. -/
theorem stepIgnoresTheDrawCounter : Obligations.StepIgnoresTheDrawCounter :=
  fun _ k storage disconnected => step_withUnread storage disconnected (some k)

end Sys2Proof.Machine
